-- ==== Sys2Proof/Word.lean ====
section
/-! DEFINITION. The word types of the hardware (spec 00_scope.md R7, R11, R12). -/

namespace Sys2Proof

/-- `u8` of R11: a register, a memory byte, an operand byte. `+` and `-` wrap modulo 256 (R12). -/
abbrev Byte := BitVec 8

/-- `u16` of R11: an address or the program counter. `+` and `-` wrap modulo 65 536 (R12). -/
abbrev Addr := BitVec 16

end Sys2Proof
end

