-- ==== Sys2Proof/Config.lean ====
section
/-! DEFINITION. The parameters and switches of spec 00_scope.md R8 and R10, and the free values: what the
spec says any value may take (R62, R63, R67) and the one number it leaves OPEN (R8). -/

namespace Sys2Proof

/-- The named parameters (R8) and behaviour switches (R10). "The model takes each one as an argument": it is
carried in `Machine.State.cfg` and never written by a step (log 1). The field defaults are the spec's defaults;
the addresses are PRESUMED (G14, D2, D3: log 2) and the switches are PRESUMED (D6, D9, D10, D11, D14: logs 3, 4). -/
structure Config where
  /-- `LOAD_ADDR`: where the program image is loaded and the initial PC. -/
  loadAddr : Addr := 0x0600#16
  /-- `FB_BASE`: the first byte of the 1024-byte framebuffer. -/
  fbBase : Addr := 0x0200#16
  /-- `RAND_ADDR`: the random-byte cell. -/
  randAddr : Addr := 0x00FE#16
  /-- `KEY_ADDR`: the keypress cell. -/
  keyAddr : Addr := 0x00FF#16
  /-- `ZP_INDEX_WRAP`: zero-page indexing and pointers stay in page zero (R88, R89, R93, R94). -/
  zpIndexWrap : Bool := true
  /-- `JMP_IND_PAGE_WRAP`: the NMOS page wrap of `JMP (ptr)` (R92). -/
  jmpIndPageWrap : Bool := false
  /-- `JSR_RET_BIAS`: JSR pushes `PC + JSR_RET_BIAS` (R244), RTS adds `3 - JSR_RET_BIAS` (R245). -/
  jsrRetBias : Addr := 2#16
  /-- `PLP_B_HALTS`: a PLP that leaves B set ends the run (R224). -/
  plpBHalts : Bool := false
  /-- `RTI_IMPLEMENTED`: opcode 0x40 runs the form of R268 instead of being unknown. -/
  rtiImplemented : Bool := false
deriving DecidableEq, Repr

/-- Every parameter and switch at the spec's default (R8, R10). -/
def Config.default : Config := {}

/-- FREE VALUE (log 5): the byte the engine draws for the step numbered `n` (R62: "any u8, with no relation to
earlier draws that a model may rely on"). -/
opaque Config.randomDraw : Nat → Byte

/-- FREE VALUE (log 6): what the display collaborator left in `KEY_ADDR` between the step before and the step
numbered `n`: the last byte it wrote there, or none if it wrote nothing (R63, R67). -/
opaque Config.keyWrite : Nat → Option Byte

/-- `EXIT_UNKNOWN_INSTR`, which R8 leaves OPEN: the exit code of the unknown-instruction error (log 22). -/
opaque Config.exitUnknownInstr : Nat

end Sys2Proof
end

