-- ==== Sys2Proof/Syntax.lean ====
section
/-! DEFINITION. The instructions as syntax: one constructor of `Instr` for each row of spec/opcode_table.json
(R99, R100), the mnemonics and addressing modes they are made of (R81, R100), and the operand forms (R84 to R95).
Every field is a whole byte or a 16-bit address, and "every u8 and u16 is legal" (R97). -/

namespace Sys2Proof

/-- The 55 mnemonics of R100. -/
inductive Mnemonic where
  | lda | ldx | ldy | sta | stx | sty | adc | sbc | cmp | cpx | cpy | and | ora | eor
  | bit | asl | lsr | rol | ror | inc | dec | inx | iny | dex | dey | tax | tay | txa
  | tya | tsx | txs | pha | php | pla | plp | bpl | bmi | bvc | bvs | bcc | bcs | bne
  | beq | jmp | jsr | rts | brk | clc | sec | cli | sei | clv | cld | sed | nop
deriving DecidableEq, Repr

/-- The thirteen addressing modes of R81, by their tags. -/
inductive Mode where
  | imp | acc | imm | zp | zpx | zpy | abs | absx | absy | ind | indx | indy | rel
deriving DecidableEq, Repr

/-- The memory operand forms, with the operand they carry: `b1` of an F2 instruction, or the word `w = {b2, b1}`
of an F3 one (R83). Their addresses are R86 to R91, R93 and R94. -/
inductive MemOperand where
  /-- `$nn` (R86). -/
  | zp (b1 : Byte)
  /-- `$nn,X` (R88). -/
  | zpx (b1 : Byte)
  /-- `$nn,Y` (R89). -/
  | zpy (b1 : Byte)
  /-- `$nnnn` (R87). -/
  | abs (w : Addr)
  /-- `$nnnn,X` (R90). -/
  | absx (w : Addr)
  /-- `$nnnn,Y` (R91). -/
  | absy (w : Addr)
  /-- `($nn,X)` (R93). -/
  | indx (b1 : Byte)
  /-- `($nn),Y` (R94). -/
  | indy (b1 : Byte)
deriving DecidableEq, Repr

/-- The operands `Operand(mode)` of R84 is defined for. -/
inductive DataOperand where
  /-- The accumulator (R95). -/
  | acc
  /-- The immediate byte (R85). -/
  | imm (b1 : Byte)
  /-- A byte of memory (R84). -/
  | mem (m : MemOperand)
deriving DecidableEq, Repr

/-- An instruction's operand as its mode gives it. -/
inductive Operand where
  /-- No operand byte (R95). -/
  | imp
  | data (d : DataOperand)
  /-- The pointer of `JMP (ptr)` (R92). -/
  | ind (w : Addr)
  /-- A branch's offset byte (R95). -/
  | rel (off : Byte)
deriving DecidableEq, Repr

/-- The instruction set `6502-binary-150` (R2, R3): one constructor per row of the opcode table, named by the row's
mnemonic and mode. `b1` and `off` are the operand byte, `w` is the operand word `{b2, b1}` (R83). -/
inductive Instr where
  -- LoadStore
  | ldaImm (b1 : Byte)
  | ldaZp (b1 : Byte)
  | ldaZpx (b1 : Byte)
  | ldaAbs (w : Addr)
  | ldaAbsx (w : Addr)
  | ldaAbsy (w : Addr)
  | ldaIndx (b1 : Byte)
  | ldaIndy (b1 : Byte)
  | ldxImm (b1 : Byte)
  | ldxZp (b1 : Byte)
  | ldxZpy (b1 : Byte)
  | ldxAbs (w : Addr)
  | ldxAbsy (w : Addr)
  | ldyImm (b1 : Byte)
  | ldyZp (b1 : Byte)
  | ldyZpx (b1 : Byte)
  | ldyAbs (w : Addr)
  | ldyAbsx (w : Addr)
  | staZp (b1 : Byte)
  | staZpx (b1 : Byte)
  | staAbs (w : Addr)
  | staAbsx (w : Addr)
  | staAbsy (w : Addr)
  | staIndx (b1 : Byte)
  | staIndy (b1 : Byte)
  | stxZp (b1 : Byte)
  | stxZpy (b1 : Byte)
  | stxAbs (w : Addr)
  | styZp (b1 : Byte)
  | styZpx (b1 : Byte)
  | styAbs (w : Addr)
  -- AddSub
  | adcImm (b1 : Byte)
  | adcZp (b1 : Byte)
  | adcZpx (b1 : Byte)
  | adcAbs (w : Addr)
  | adcAbsx (w : Addr)
  | adcAbsy (w : Addr)
  | adcIndx (b1 : Byte)
  | adcIndy (b1 : Byte)
  | sbcImm (b1 : Byte)
  | sbcZp (b1 : Byte)
  | sbcZpx (b1 : Byte)
  | sbcAbs (w : Addr)
  | sbcAbsx (w : Addr)
  | sbcAbsy (w : Addr)
  | sbcIndx (b1 : Byte)
  | sbcIndy (b1 : Byte)
  | cmpImm (b1 : Byte)
  | cmpZp (b1 : Byte)
  | cmpZpx (b1 : Byte)
  | cmpAbs (w : Addr)
  | cmpAbsx (w : Addr)
  | cmpAbsy (w : Addr)
  | cmpIndx (b1 : Byte)
  | cmpIndy (b1 : Byte)
  | cpxImm (b1 : Byte)
  | cpxZp (b1 : Byte)
  | cpxAbs (w : Addr)
  | cpyImm (b1 : Byte)
  | cpyZp (b1 : Byte)
  | cpyAbs (w : Addr)
  -- Logic
  | andImm (b1 : Byte)
  | andZp (b1 : Byte)
  | andZpx (b1 : Byte)
  | andAbs (w : Addr)
  | andAbsx (w : Addr)
  | andAbsy (w : Addr)
  | andIndx (b1 : Byte)
  | andIndy (b1 : Byte)
  | oraImm (b1 : Byte)
  | oraZp (b1 : Byte)
  | oraZpx (b1 : Byte)
  | oraAbs (w : Addr)
  | oraAbsx (w : Addr)
  | oraAbsy (w : Addr)
  | oraIndx (b1 : Byte)
  | oraIndy (b1 : Byte)
  | eorImm (b1 : Byte)
  | eorZp (b1 : Byte)
  | eorZpx (b1 : Byte)
  | eorAbs (w : Addr)
  | eorAbsx (w : Addr)
  | eorAbsy (w : Addr)
  | eorIndx (b1 : Byte)
  | eorIndy (b1 : Byte)
  | bitZp (b1 : Byte)
  | bitAbs (w : Addr)
  -- Shift
  | aslAcc
  | aslZp (b1 : Byte)
  | aslZpx (b1 : Byte)
  | aslAbs (w : Addr)
  | aslAbsx (w : Addr)
  | lsrAcc
  | lsrZp (b1 : Byte)
  | lsrZpx (b1 : Byte)
  | lsrAbs (w : Addr)
  | lsrAbsx (w : Addr)
  | rolAcc
  | rolZp (b1 : Byte)
  | rolZpx (b1 : Byte)
  | rolAbs (w : Addr)
  | rolAbsx (w : Addr)
  | rorAcc
  | rorZp (b1 : Byte)
  | rorZpx (b1 : Byte)
  | rorAbs (w : Addr)
  | rorAbsx (w : Addr)
  -- IncDec
  | incZp (b1 : Byte)
  | incZpx (b1 : Byte)
  | incAbs (w : Addr)
  | incAbsx (w : Addr)
  | decZp (b1 : Byte)
  | decZpx (b1 : Byte)
  | decAbs (w : Addr)
  | decAbsx (w : Addr)
  | inx
  | iny
  | dex
  | dey
  -- Transfer
  | tax
  | tay
  | txa
  | tya
  | tsx
  | txs
  -- Stack
  | pha
  | php
  | pla
  | plp
  -- Branch
  | bpl (off : Byte)
  | bmi (off : Byte)
  | bvc (off : Byte)
  | bvs (off : Byte)
  | bcc (off : Byte)
  | bcs (off : Byte)
  | bne (off : Byte)
  | beq (off : Byte)
  -- JumpCallHalt
  | jmpAbs (w : Addr)
  | jmpInd (w : Addr)
  | jsr (w : Addr)
  | rts
  | brk
  -- FlagNop
  | clc
  | sec
  | cli
  | sei
  | clv
  | cld
  | sed
  | nop
deriving DecidableEq, Repr

/-- The mnemonic and operand each row of the opcode table stands for (R82, R100). -/
def Instr.form : Instr → Mnemonic × Operand
  | .ldaImm b1 => (.lda, .data (.imm b1))
  | .ldaZp b1 => (.lda, .data (.mem (.zp b1)))
  | .ldaZpx b1 => (.lda, .data (.mem (.zpx b1)))
  | .ldaAbs w => (.lda, .data (.mem (.abs w)))
  | .ldaAbsx w => (.lda, .data (.mem (.absx w)))
  | .ldaAbsy w => (.lda, .data (.mem (.absy w)))
  | .ldaIndx b1 => (.lda, .data (.mem (.indx b1)))
  | .ldaIndy b1 => (.lda, .data (.mem (.indy b1)))
  | .ldxImm b1 => (.ldx, .data (.imm b1))
  | .ldxZp b1 => (.ldx, .data (.mem (.zp b1)))
  | .ldxZpy b1 => (.ldx, .data (.mem (.zpy b1)))
  | .ldxAbs w => (.ldx, .data (.mem (.abs w)))
  | .ldxAbsy w => (.ldx, .data (.mem (.absy w)))
  | .ldyImm b1 => (.ldy, .data (.imm b1))
  | .ldyZp b1 => (.ldy, .data (.mem (.zp b1)))
  | .ldyZpx b1 => (.ldy, .data (.mem (.zpx b1)))
  | .ldyAbs w => (.ldy, .data (.mem (.abs w)))
  | .ldyAbsx w => (.ldy, .data (.mem (.absx w)))
  | .staZp b1 => (.sta, .data (.mem (.zp b1)))
  | .staZpx b1 => (.sta, .data (.mem (.zpx b1)))
  | .staAbs w => (.sta, .data (.mem (.abs w)))
  | .staAbsx w => (.sta, .data (.mem (.absx w)))
  | .staAbsy w => (.sta, .data (.mem (.absy w)))
  | .staIndx b1 => (.sta, .data (.mem (.indx b1)))
  | .staIndy b1 => (.sta, .data (.mem (.indy b1)))
  | .stxZp b1 => (.stx, .data (.mem (.zp b1)))
  | .stxZpy b1 => (.stx, .data (.mem (.zpy b1)))
  | .stxAbs w => (.stx, .data (.mem (.abs w)))
  | .styZp b1 => (.sty, .data (.mem (.zp b1)))
  | .styZpx b1 => (.sty, .data (.mem (.zpx b1)))
  | .styAbs w => (.sty, .data (.mem (.abs w)))
  | .adcImm b1 => (.adc, .data (.imm b1))
  | .adcZp b1 => (.adc, .data (.mem (.zp b1)))
  | .adcZpx b1 => (.adc, .data (.mem (.zpx b1)))
  | .adcAbs w => (.adc, .data (.mem (.abs w)))
  | .adcAbsx w => (.adc, .data (.mem (.absx w)))
  | .adcAbsy w => (.adc, .data (.mem (.absy w)))
  | .adcIndx b1 => (.adc, .data (.mem (.indx b1)))
  | .adcIndy b1 => (.adc, .data (.mem (.indy b1)))
  | .sbcImm b1 => (.sbc, .data (.imm b1))
  | .sbcZp b1 => (.sbc, .data (.mem (.zp b1)))
  | .sbcZpx b1 => (.sbc, .data (.mem (.zpx b1)))
  | .sbcAbs w => (.sbc, .data (.mem (.abs w)))
  | .sbcAbsx w => (.sbc, .data (.mem (.absx w)))
  | .sbcAbsy w => (.sbc, .data (.mem (.absy w)))
  | .sbcIndx b1 => (.sbc, .data (.mem (.indx b1)))
  | .sbcIndy b1 => (.sbc, .data (.mem (.indy b1)))
  | .cmpImm b1 => (.cmp, .data (.imm b1))
  | .cmpZp b1 => (.cmp, .data (.mem (.zp b1)))
  | .cmpZpx b1 => (.cmp, .data (.mem (.zpx b1)))
  | .cmpAbs w => (.cmp, .data (.mem (.abs w)))
  | .cmpAbsx w => (.cmp, .data (.mem (.absx w)))
  | .cmpAbsy w => (.cmp, .data (.mem (.absy w)))
  | .cmpIndx b1 => (.cmp, .data (.mem (.indx b1)))
  | .cmpIndy b1 => (.cmp, .data (.mem (.indy b1)))
  | .cpxImm b1 => (.cpx, .data (.imm b1))
  | .cpxZp b1 => (.cpx, .data (.mem (.zp b1)))
  | .cpxAbs w => (.cpx, .data (.mem (.abs w)))
  | .cpyImm b1 => (.cpy, .data (.imm b1))
  | .cpyZp b1 => (.cpy, .data (.mem (.zp b1)))
  | .cpyAbs w => (.cpy, .data (.mem (.abs w)))
  | .andImm b1 => (.and, .data (.imm b1))
  | .andZp b1 => (.and, .data (.mem (.zp b1)))
  | .andZpx b1 => (.and, .data (.mem (.zpx b1)))
  | .andAbs w => (.and, .data (.mem (.abs w)))
  | .andAbsx w => (.and, .data (.mem (.absx w)))
  | .andAbsy w => (.and, .data (.mem (.absy w)))
  | .andIndx b1 => (.and, .data (.mem (.indx b1)))
  | .andIndy b1 => (.and, .data (.mem (.indy b1)))
  | .oraImm b1 => (.ora, .data (.imm b1))
  | .oraZp b1 => (.ora, .data (.mem (.zp b1)))
  | .oraZpx b1 => (.ora, .data (.mem (.zpx b1)))
  | .oraAbs w => (.ora, .data (.mem (.abs w)))
  | .oraAbsx w => (.ora, .data (.mem (.absx w)))
  | .oraAbsy w => (.ora, .data (.mem (.absy w)))
  | .oraIndx b1 => (.ora, .data (.mem (.indx b1)))
  | .oraIndy b1 => (.ora, .data (.mem (.indy b1)))
  | .eorImm b1 => (.eor, .data (.imm b1))
  | .eorZp b1 => (.eor, .data (.mem (.zp b1)))
  | .eorZpx b1 => (.eor, .data (.mem (.zpx b1)))
  | .eorAbs w => (.eor, .data (.mem (.abs w)))
  | .eorAbsx w => (.eor, .data (.mem (.absx w)))
  | .eorAbsy w => (.eor, .data (.mem (.absy w)))
  | .eorIndx b1 => (.eor, .data (.mem (.indx b1)))
  | .eorIndy b1 => (.eor, .data (.mem (.indy b1)))
  | .bitZp b1 => (.bit, .data (.mem (.zp b1)))
  | .bitAbs w => (.bit, .data (.mem (.abs w)))
  | .aslAcc => (.asl, .data .acc)
  | .aslZp b1 => (.asl, .data (.mem (.zp b1)))
  | .aslZpx b1 => (.asl, .data (.mem (.zpx b1)))
  | .aslAbs w => (.asl, .data (.mem (.abs w)))
  | .aslAbsx w => (.asl, .data (.mem (.absx w)))
  | .lsrAcc => (.lsr, .data .acc)
  | .lsrZp b1 => (.lsr, .data (.mem (.zp b1)))
  | .lsrZpx b1 => (.lsr, .data (.mem (.zpx b1)))
  | .lsrAbs w => (.lsr, .data (.mem (.abs w)))
  | .lsrAbsx w => (.lsr, .data (.mem (.absx w)))
  | .rolAcc => (.rol, .data .acc)
  | .rolZp b1 => (.rol, .data (.mem (.zp b1)))
  | .rolZpx b1 => (.rol, .data (.mem (.zpx b1)))
  | .rolAbs w => (.rol, .data (.mem (.abs w)))
  | .rolAbsx w => (.rol, .data (.mem (.absx w)))
  | .rorAcc => (.ror, .data .acc)
  | .rorZp b1 => (.ror, .data (.mem (.zp b1)))
  | .rorZpx b1 => (.ror, .data (.mem (.zpx b1)))
  | .rorAbs w => (.ror, .data (.mem (.abs w)))
  | .rorAbsx w => (.ror, .data (.mem (.absx w)))
  | .incZp b1 => (.inc, .data (.mem (.zp b1)))
  | .incZpx b1 => (.inc, .data (.mem (.zpx b1)))
  | .incAbs w => (.inc, .data (.mem (.abs w)))
  | .incAbsx w => (.inc, .data (.mem (.absx w)))
  | .decZp b1 => (.dec, .data (.mem (.zp b1)))
  | .decZpx b1 => (.dec, .data (.mem (.zpx b1)))
  | .decAbs w => (.dec, .data (.mem (.abs w)))
  | .decAbsx w => (.dec, .data (.mem (.absx w)))
  | .inx => (.inx, .imp)
  | .iny => (.iny, .imp)
  | .dex => (.dex, .imp)
  | .dey => (.dey, .imp)
  | .tax => (.tax, .imp)
  | .tay => (.tay, .imp)
  | .txa => (.txa, .imp)
  | .tya => (.tya, .imp)
  | .tsx => (.tsx, .imp)
  | .txs => (.txs, .imp)
  | .pha => (.pha, .imp)
  | .php => (.php, .imp)
  | .pla => (.pla, .imp)
  | .plp => (.plp, .imp)
  | .bpl off => (.bpl, .rel off)
  | .bmi off => (.bmi, .rel off)
  | .bvc off => (.bvc, .rel off)
  | .bvs off => (.bvs, .rel off)
  | .bcc off => (.bcc, .rel off)
  | .bcs off => (.bcs, .rel off)
  | .bne off => (.bne, .rel off)
  | .beq off => (.beq, .rel off)
  | .jmpAbs w => (.jmp, .data (.mem (.abs w)))
  | .jmpInd w => (.jmp, .ind w)
  | .jsr w => (.jsr, .data (.mem (.abs w)))
  | .rts => (.rts, .imp)
  | .brk => (.brk, .imp)
  | .clc => (.clc, .imp)
  | .sec => (.sec, .imp)
  | .cli => (.cli, .imp)
  | .sei => (.sei, .imp)
  | .clv => (.clv, .imp)
  | .cld => (.cld, .imp)
  | .sed => (.sed, .imp)
  | .nop => (.nop, .imp)

/-- The row's mnemonic. -/
def Instr.mnemonic (i : Instr) : Mnemonic := i.form.1

/-- The row's operand form, with the operand bytes. -/
def Instr.operand (i : Instr) : Operand := i.form.2

/-- The addressing mode of a memory operand form. -/
def MemOperand.mode : MemOperand → Mode
  | .zp _ => .zp
  | .zpx _ => .zpx
  | .zpy _ => .zpy
  | .abs _ => .abs
  | .absx _ => .absx
  | .absy _ => .absy
  | .indx _ => .indx
  | .indy _ => .indy

/-- The addressing mode of a data operand form. -/
def DataOperand.mode : DataOperand → Mode
  | .acc => .acc
  | .imm _ => .imm
  | .mem m => m.mode

/-- The addressing mode of an operand form. -/
def Operand.mode : Operand → Mode
  | .imp => .imp
  | .data d => d.mode
  | .ind _ => .ind
  | .rel _ => .rel

/-- The row's addressing mode. -/
def Instr.mode (i : Instr) : Mode := i.operand.mode

end Sys2Proof
end

