-- ==== Sys2Proof/WellFormed.lean ====
section
/-! DEFINITION. What is well formed: a (mnemonic, mode) pair (R100, R115), an instruction, a setting of the
parameters (R9), a program image (R70). -/

namespace Sys2Proof

/-- The modes each mnemonic has (R100, the columns that are filled). PRESUMED (G1, D4: log 12). -/
def admittedModes : Mnemonic → List Mode
  | .lda => [.imm, .zp, .zpx, .abs, .absx, .absy, .indx, .indy]
  | .ldx => [.imm, .zp, .zpy, .abs, .absy]
  | .ldy => [.imm, .zp, .zpx, .abs, .absx]
  | .sta => [.zp, .zpx, .abs, .absx, .absy, .indx, .indy]
  | .stx => [.zp, .zpy, .abs]
  | .sty => [.zp, .zpx, .abs]
  | .adc => [.imm, .zp, .zpx, .abs, .absx, .absy, .indx, .indy]
  | .sbc => [.imm, .zp, .zpx, .abs, .absx, .absy, .indx, .indy]
  | .cmp => [.imm, .zp, .zpx, .abs, .absx, .absy, .indx, .indy]
  | .cpx => [.imm, .zp, .abs]
  | .cpy => [.imm, .zp, .abs]
  | .and => [.imm, .zp, .zpx, .abs, .absx, .absy, .indx, .indy]
  | .ora => [.imm, .zp, .zpx, .abs, .absx, .absy, .indx, .indy]
  | .eor => [.imm, .zp, .zpx, .abs, .absx, .absy, .indx, .indy]
  | .bit => [.zp, .abs]
  | .asl => [.acc, .zp, .zpx, .abs, .absx]
  | .lsr => [.acc, .zp, .zpx, .abs, .absx]
  | .rol => [.acc, .zp, .zpx, .abs, .absx]
  | .ror => [.acc, .zp, .zpx, .abs, .absx]
  | .inc => [.zp, .zpx, .abs, .absx]
  | .dec => [.zp, .zpx, .abs, .absx]
  | .inx => [.imp]
  | .iny => [.imp]
  | .dex => [.imp]
  | .dey => [.imp]
  | .tax => [.imp]
  | .tay => [.imp]
  | .txa => [.imp]
  | .tya => [.imp]
  | .tsx => [.imp]
  | .txs => [.imp]
  | .pha => [.imp]
  | .php => [.imp]
  | .pla => [.imp]
  | .plp => [.imp]
  | .bpl => [.rel]
  | .bmi => [.rel]
  | .bvc => [.rel]
  | .bvs => [.rel]
  | .bcc => [.rel]
  | .bcs => [.rel]
  | .bne => [.rel]
  | .beq => [.rel]
  | .jmp => [.abs, .ind]
  | .jsr => [.abs]
  | .rts => [.imp]
  | .brk => [.imp]
  | .clc => [.imp]
  | .sec => [.imp]
  | .cli => [.imp]
  | .sei => [.imp]
  | .clv => [.imp]
  | .cld => [.imp]
  | .sed => [.imp]
  | .nop => [.imp]

/-- A pair the opcode table has a row for; the others are "addressing mode not supported" (R100, R115). -/
def formAdmitted (m : Mnemonic) (md : Mode) : Bool := (admittedModes m).contains md

/-- An instruction is well formed when its pair is admitted. Its operand bytes need no check: "every u8 and u16 is
legal" (R97). -/
def Instr.wf (i : Instr) : Bool := formAdmitted i.mnemonic i.mode

/-- The constraints of R9: the framebuffer does not wrap past 0xFFFF, the two cells are distinct, and both lie
outside the framebuffer. -/
def Config.wf (c : Config) : Bool :=
  decide (c.fbBase.toNat + 0x3FF ≤ 0xFFFF)
    && decide (c.randAddr ≠ c.keyAddr)
    && decide (c.randAddr.toNat < c.fbBase.toNat ∨ c.fbBase.toNat + 0x3FF < c.randAddr.toNat)
    && decide (c.keyAddr.toNat < c.fbBase.toNat ∨ c.fbBase.toNat + 0x3FF < c.keyAddr.toNat)

/-- The precondition of R70 (and R284): the image fits above `LOAD_ADDR`. -/
def Config.imageFits (c : Config) (image : List Byte) : Bool :=
  decide (c.loadAddr.toNat + image.length ≤ 0x10000)

end Sys2Proof
end

