-- ==== Sys2Proof/Decode.lean ====
section
/-! DEFINITION. The decoder (R80 to R83, R96 to R99), the encoder after it (R80, R83, R100, R117), the assembler's
label resolution (R125, R126), and the byte helpers both use (R11). -/

namespace Sys2Proof

/-- `{h, l}` of R11. -/
def hiLo (h l : Byte) : Addr := h ++ l

/-- `v[7:0]` of a 16-bit value. -/
def loByte (w : Addr) : Byte := w.extractLsb' 0 8

/-- `v[15:8]` of a 16-bit value. -/
def hiByte (w : Addr) : Byte := w.extractLsb' 8 8

/-- `zext_16` of R11. -/
def zext16 (b : Byte) : Addr := b.setWidth 16

/-- `sext_16` of R11: bit 7 is copied into bits 15..8. -/
def sext16 (b : Byte) : Addr := b.signExtend 16

/-- The length each mode gives an instruction (R81). PRESUMED (G2, D4: log 12), but for BRK's 1 (N6). -/
def Mode.length : Mode → Nat
  | .imp | .acc => 1
  | .imm | .zp | .zpx | .zpy | .indx | .indy | .rel => 2
  | .abs | .absx | .absy | .ind => 3

/-- The instruction's length in bytes (R81, R98). -/
def Instr.length (i : Instr) : Nat := i.mode.length

/-! ### The opcode map R99

One definition per row of the map (the high nibble), matching on the column (the low nibble); none is the map's `--`.
The byte values are PRESUMED (G1, D4, D5: logs 12, 17). -/

/-- Row `0_` of R99. -/
def mapRow0 (lo : Nat) (b1 b2 : Byte) : Option Instr :=
  match lo with
  | 0x0 => some .brk
  | 0x1 => some (.oraIndx b1)
  | 0x5 => some (.oraZp b1)
  | 0x6 => some (.aslZp b1)
  | 0x8 => some .php
  | 0x9 => some (.oraImm b1)
  | 0xA => some .aslAcc
  | 0xD => some (.oraAbs (hiLo b2 b1))
  | 0xE => some (.aslAbs (hiLo b2 b1))
  | _ => none

/-- Row `1_` of R99. -/
def mapRow1 (lo : Nat) (b1 b2 : Byte) : Option Instr :=
  match lo with
  | 0x0 => some (.bpl b1)
  | 0x1 => some (.oraIndy b1)
  | 0x5 => some (.oraZpx b1)
  | 0x6 => some (.aslZpx b1)
  | 0x8 => some .clc
  | 0x9 => some (.oraAbsy (hiLo b2 b1))
  | 0xD => some (.oraAbsx (hiLo b2 b1))
  | 0xE => some (.aslAbsx (hiLo b2 b1))
  | _ => none

/-- Row `2_` of R99. -/
def mapRow2 (lo : Nat) (b1 b2 : Byte) : Option Instr :=
  match lo with
  | 0x0 => some (.jsr (hiLo b2 b1))
  | 0x1 => some (.andIndx b1)
  | 0x4 => some (.bitZp b1)
  | 0x5 => some (.andZp b1)
  | 0x6 => some (.rolZp b1)
  | 0x8 => some .plp
  | 0x9 => some (.andImm b1)
  | 0xA => some .rolAcc
  | 0xC => some (.bitAbs (hiLo b2 b1))
  | 0xD => some (.andAbs (hiLo b2 b1))
  | 0xE => some (.rolAbs (hiLo b2 b1))
  | _ => none

/-- Row `3_` of R99. -/
def mapRow3 (lo : Nat) (b1 b2 : Byte) : Option Instr :=
  match lo with
  | 0x0 => some (.bmi b1)
  | 0x1 => some (.andIndy b1)
  | 0x5 => some (.andZpx b1)
  | 0x6 => some (.rolZpx b1)
  | 0x8 => some .sec
  | 0x9 => some (.andAbsy (hiLo b2 b1))
  | 0xD => some (.andAbsx (hiLo b2 b1))
  | 0xE => some (.rolAbsx (hiLo b2 b1))
  | _ => none

/-- Row `4_` of R99. -/
def mapRow4 (lo : Nat) (b1 b2 : Byte) : Option Instr :=
  match lo with
  | 0x1 => some (.eorIndx b1)
  | 0x5 => some (.eorZp b1)
  | 0x6 => some (.lsrZp b1)
  | 0x8 => some .pha
  | 0x9 => some (.eorImm b1)
  | 0xA => some .lsrAcc
  | 0xC => some (.jmpAbs (hiLo b2 b1))
  | 0xD => some (.eorAbs (hiLo b2 b1))
  | 0xE => some (.lsrAbs (hiLo b2 b1))
  | _ => none

/-- Row `5_` of R99. -/
def mapRow5 (lo : Nat) (b1 b2 : Byte) : Option Instr :=
  match lo with
  | 0x0 => some (.bvc b1)
  | 0x1 => some (.eorIndy b1)
  | 0x5 => some (.eorZpx b1)
  | 0x6 => some (.lsrZpx b1)
  | 0x8 => some .cli
  | 0x9 => some (.eorAbsy (hiLo b2 b1))
  | 0xD => some (.eorAbsx (hiLo b2 b1))
  | 0xE => some (.lsrAbsx (hiLo b2 b1))
  | _ => none

/-- Row `6_` of R99. -/
def mapRow6 (lo : Nat) (b1 b2 : Byte) : Option Instr :=
  match lo with
  | 0x0 => some .rts
  | 0x1 => some (.adcIndx b1)
  | 0x5 => some (.adcZp b1)
  | 0x6 => some (.rorZp b1)
  | 0x8 => some .pla
  | 0x9 => some (.adcImm b1)
  | 0xA => some .rorAcc
  | 0xC => some (.jmpInd (hiLo b2 b1))
  | 0xD => some (.adcAbs (hiLo b2 b1))
  | 0xE => some (.rorAbs (hiLo b2 b1))
  | _ => none

/-- Row `7_` of R99. -/
def mapRow7 (lo : Nat) (b1 b2 : Byte) : Option Instr :=
  match lo with
  | 0x0 => some (.bvs b1)
  | 0x1 => some (.adcIndy b1)
  | 0x5 => some (.adcZpx b1)
  | 0x6 => some (.rorZpx b1)
  | 0x8 => some .sei
  | 0x9 => some (.adcAbsy (hiLo b2 b1))
  | 0xD => some (.adcAbsx (hiLo b2 b1))
  | 0xE => some (.rorAbsx (hiLo b2 b1))
  | _ => none

/-- Row `8_` of R99. -/
def mapRow8 (lo : Nat) (b1 b2 : Byte) : Option Instr :=
  match lo with
  | 0x1 => some (.staIndx b1)
  | 0x4 => some (.styZp b1)
  | 0x5 => some (.staZp b1)
  | 0x6 => some (.stxZp b1)
  | 0x8 => some .dey
  | 0xA => some .txa
  | 0xC => some (.styAbs (hiLo b2 b1))
  | 0xD => some (.staAbs (hiLo b2 b1))
  | 0xE => some (.stxAbs (hiLo b2 b1))
  | _ => none

/-- Row `9_` of R99. -/
def mapRow9 (lo : Nat) (b1 b2 : Byte) : Option Instr :=
  match lo with
  | 0x0 => some (.bcc b1)
  | 0x1 => some (.staIndy b1)
  | 0x4 => some (.styZpx b1)
  | 0x5 => some (.staZpx b1)
  | 0x6 => some (.stxZpy b1)
  | 0x8 => some .tya
  | 0x9 => some (.staAbsy (hiLo b2 b1))
  | 0xA => some .txs
  | 0xD => some (.staAbsx (hiLo b2 b1))
  | _ => none

/-- Row `A_` of R99. -/
def mapRowA (lo : Nat) (b1 b2 : Byte) : Option Instr :=
  match lo with
  | 0x0 => some (.ldyImm b1)
  | 0x1 => some (.ldaIndx b1)
  | 0x2 => some (.ldxImm b1)
  | 0x4 => some (.ldyZp b1)
  | 0x5 => some (.ldaZp b1)
  | 0x6 => some (.ldxZp b1)
  | 0x8 => some .tay
  | 0x9 => some (.ldaImm b1)
  | 0xA => some .tax
  | 0xC => some (.ldyAbs (hiLo b2 b1))
  | 0xD => some (.ldaAbs (hiLo b2 b1))
  | 0xE => some (.ldxAbs (hiLo b2 b1))
  | _ => none

/-- Row `B_` of R99. -/
def mapRowB (lo : Nat) (b1 b2 : Byte) : Option Instr :=
  match lo with
  | 0x0 => some (.bcs b1)
  | 0x1 => some (.ldaIndy b1)
  | 0x4 => some (.ldyZpx b1)
  | 0x5 => some (.ldaZpx b1)
  | 0x6 => some (.ldxZpy b1)
  | 0x8 => some .clv
  | 0x9 => some (.ldaAbsy (hiLo b2 b1))
  | 0xA => some .tsx
  | 0xC => some (.ldyAbsx (hiLo b2 b1))
  | 0xD => some (.ldaAbsx (hiLo b2 b1))
  | 0xE => some (.ldxAbsy (hiLo b2 b1))
  | _ => none

/-- Row `C_` of R99. -/
def mapRowC (lo : Nat) (b1 b2 : Byte) : Option Instr :=
  match lo with
  | 0x0 => some (.cpyImm b1)
  | 0x1 => some (.cmpIndx b1)
  | 0x4 => some (.cpyZp b1)
  | 0x5 => some (.cmpZp b1)
  | 0x6 => some (.decZp b1)
  | 0x8 => some .iny
  | 0x9 => some (.cmpImm b1)
  | 0xA => some .dex
  | 0xC => some (.cpyAbs (hiLo b2 b1))
  | 0xD => some (.cmpAbs (hiLo b2 b1))
  | 0xE => some (.decAbs (hiLo b2 b1))
  | _ => none

/-- Row `D_` of R99. -/
def mapRowD (lo : Nat) (b1 b2 : Byte) : Option Instr :=
  match lo with
  | 0x0 => some (.bne b1)
  | 0x1 => some (.cmpIndy b1)
  | 0x5 => some (.cmpZpx b1)
  | 0x6 => some (.decZpx b1)
  | 0x8 => some .cld
  | 0x9 => some (.cmpAbsy (hiLo b2 b1))
  | 0xD => some (.cmpAbsx (hiLo b2 b1))
  | 0xE => some (.decAbsx (hiLo b2 b1))
  | _ => none

/-- Row `E_` of R99. -/
def mapRowE (lo : Nat) (b1 b2 : Byte) : Option Instr :=
  match lo with
  | 0x0 => some (.cpxImm b1)
  | 0x1 => some (.sbcIndx b1)
  | 0x4 => some (.cpxZp b1)
  | 0x5 => some (.sbcZp b1)
  | 0x6 => some (.incZp b1)
  | 0x8 => some .inx
  | 0x9 => some (.sbcImm b1)
  | 0xA => some .nop
  | 0xC => some (.cpxAbs (hiLo b2 b1))
  | 0xD => some (.sbcAbs (hiLo b2 b1))
  | 0xE => some (.incAbs (hiLo b2 b1))
  | _ => none

/-- Row `F_` of R99. -/
def mapRowF (lo : Nat) (b1 b2 : Byte) : Option Instr :=
  match lo with
  | 0x0 => some (.beq b1)
  | 0x1 => some (.sbcIndy b1)
  | 0x5 => some (.sbcZpx b1)
  | 0x6 => some (.incZpx b1)
  | 0x8 => some .sed
  | 0x9 => some (.sbcAbsy (hiLo b2 b1))
  | 0xD => some (.sbcAbsx (hiLo b2 b1))
  | 0xE => some (.incAbsx (hiLo b2 b1))
  | _ => none

/-- The opcode map R99: the instruction an opcode byte and its operand bytes stand for. An operand byte the row does
not have is not used. A 16-bit operand is `{b2, b1}` (R83). -/
def decodeInstr (op b1 b2 : Byte) : Option Instr :=
  match op.toNat / 16 with
  | 0x0 => mapRow0 (op.toNat % 16) b1 b2
  | 0x1 => mapRow1 (op.toNat % 16) b1 b2
  | 0x2 => mapRow2 (op.toNat % 16) b1 b2
  | 0x3 => mapRow3 (op.toNat % 16) b1 b2
  | 0x4 => mapRow4 (op.toNat % 16) b1 b2
  | 0x5 => mapRow5 (op.toNat % 16) b1 b2
  | 0x6 => mapRow6 (op.toNat % 16) b1 b2
  | 0x7 => mapRow7 (op.toNat % 16) b1 b2
  | 0x8 => mapRow8 (op.toNat % 16) b1 b2
  | 0x9 => mapRow9 (op.toNat % 16) b1 b2
  | 0xA => mapRowA (op.toNat % 16) b1 b2
  | 0xB => mapRowB (op.toNat % 16) b1 b2
  | 0xC => mapRowC (op.toNat % 16) b1 b2
  | 0xD => mapRowD (op.toNat % 16) b1 b2
  | 0xE => mapRowE (op.toNat % 16) b1 b2
  | 0xF => mapRowF (op.toNat % 16) b1 b2
  | _ => none

/-- R82's `Decode(op)`: the row's mnemonic, mode and length, or none for Unknown. It reads nothing but the opcode. -/
def decodeOpcode (op : Byte) : Option (Mnemonic × Mode × Nat) :=
  (decodeInstr op 0 0).map fun i => (i.mnemonic, i.mode, i.length)

/-- The static per-opcode length table (R81, R98); none for an unknown opcode. -/
def opcodeLength (op : Byte) : Option Nat := (decodeInstr op 0 0).map Instr.length

/-- Why bytes decode to no instruction. -/
inductive DecodeError where
  /-- There is no byte at all. -/
  | noBytes
  /-- The opcode byte has no row in the opcode table (R96). -/
  | unknownInstruction (op : Byte)
  /-- The opcode's operand bytes are missing. -/
  | truncated (op : Byte)
deriving DecidableEq, Repr

/-- Decode the first instruction of a byte list and return it with the rest (R98). -/
def decode : List Byte → Except DecodeError (Instr × List Byte)
  | [] => .error .noBytes
  | op :: rest =>
    match decodeInstr op (rest.getD 0 0) (rest.getD 1 0) with
    | none => .error (.unknownInstruction op)
    | some i =>
      if rest.length + 1 < i.length then .error (.truncated op)
      else .ok (i, rest.drop (i.length - 1))

/-- The opcode of each instruction, read by mnemonic and mode from R100. PRESUMED (G1, D4, D5: logs 12, 17). -/
def Instr.opcode : Instr → Byte
  | .ldaImm _ => 0xA9#8
  | .ldaZp _ => 0xA5#8
  | .ldaZpx _ => 0xB5#8
  | .ldaAbs _ => 0xAD#8
  | .ldaAbsx _ => 0xBD#8
  | .ldaAbsy _ => 0xB9#8
  | .ldaIndx _ => 0xA1#8
  | .ldaIndy _ => 0xB1#8
  | .ldxImm _ => 0xA2#8
  | .ldxZp _ => 0xA6#8
  | .ldxZpy _ => 0xB6#8
  | .ldxAbs _ => 0xAE#8
  | .ldxAbsy _ => 0xBE#8
  | .ldyImm _ => 0xA0#8
  | .ldyZp _ => 0xA4#8
  | .ldyZpx _ => 0xB4#8
  | .ldyAbs _ => 0xAC#8
  | .ldyAbsx _ => 0xBC#8
  | .staZp _ => 0x85#8
  | .staZpx _ => 0x95#8
  | .staAbs _ => 0x8D#8
  | .staAbsx _ => 0x9D#8
  | .staAbsy _ => 0x99#8
  | .staIndx _ => 0x81#8
  | .staIndy _ => 0x91#8
  | .stxZp _ => 0x86#8
  | .stxZpy _ => 0x96#8
  | .stxAbs _ => 0x8E#8
  | .styZp _ => 0x84#8
  | .styZpx _ => 0x94#8
  | .styAbs _ => 0x8C#8
  | .adcImm _ => 0x69#8
  | .adcZp _ => 0x65#8
  | .adcZpx _ => 0x75#8
  | .adcAbs _ => 0x6D#8
  | .adcAbsx _ => 0x7D#8
  | .adcAbsy _ => 0x79#8
  | .adcIndx _ => 0x61#8
  | .adcIndy _ => 0x71#8
  | .sbcImm _ => 0xE9#8
  | .sbcZp _ => 0xE5#8
  | .sbcZpx _ => 0xF5#8
  | .sbcAbs _ => 0xED#8
  | .sbcAbsx _ => 0xFD#8
  | .sbcAbsy _ => 0xF9#8
  | .sbcIndx _ => 0xE1#8
  | .sbcIndy _ => 0xF1#8
  | .cmpImm _ => 0xC9#8
  | .cmpZp _ => 0xC5#8
  | .cmpZpx _ => 0xD5#8
  | .cmpAbs _ => 0xCD#8
  | .cmpAbsx _ => 0xDD#8
  | .cmpAbsy _ => 0xD9#8
  | .cmpIndx _ => 0xC1#8
  | .cmpIndy _ => 0xD1#8
  | .cpxImm _ => 0xE0#8
  | .cpxZp _ => 0xE4#8
  | .cpxAbs _ => 0xEC#8
  | .cpyImm _ => 0xC0#8
  | .cpyZp _ => 0xC4#8
  | .cpyAbs _ => 0xCC#8
  | .andImm _ => 0x29#8
  | .andZp _ => 0x25#8
  | .andZpx _ => 0x35#8
  | .andAbs _ => 0x2D#8
  | .andAbsx _ => 0x3D#8
  | .andAbsy _ => 0x39#8
  | .andIndx _ => 0x21#8
  | .andIndy _ => 0x31#8
  | .oraImm _ => 0x09#8
  | .oraZp _ => 0x05#8
  | .oraZpx _ => 0x15#8
  | .oraAbs _ => 0x0D#8
  | .oraAbsx _ => 0x1D#8
  | .oraAbsy _ => 0x19#8
  | .oraIndx _ => 0x01#8
  | .oraIndy _ => 0x11#8
  | .eorImm _ => 0x49#8
  | .eorZp _ => 0x45#8
  | .eorZpx _ => 0x55#8
  | .eorAbs _ => 0x4D#8
  | .eorAbsx _ => 0x5D#8
  | .eorAbsy _ => 0x59#8
  | .eorIndx _ => 0x41#8
  | .eorIndy _ => 0x51#8
  | .bitZp _ => 0x24#8
  | .bitAbs _ => 0x2C#8
  | .aslAcc => 0x0A#8
  | .aslZp _ => 0x06#8
  | .aslZpx _ => 0x16#8
  | .aslAbs _ => 0x0E#8
  | .aslAbsx _ => 0x1E#8
  | .lsrAcc => 0x4A#8
  | .lsrZp _ => 0x46#8
  | .lsrZpx _ => 0x56#8
  | .lsrAbs _ => 0x4E#8
  | .lsrAbsx _ => 0x5E#8
  | .rolAcc => 0x2A#8
  | .rolZp _ => 0x26#8
  | .rolZpx _ => 0x36#8
  | .rolAbs _ => 0x2E#8
  | .rolAbsx _ => 0x3E#8
  | .rorAcc => 0x6A#8
  | .rorZp _ => 0x66#8
  | .rorZpx _ => 0x76#8
  | .rorAbs _ => 0x6E#8
  | .rorAbsx _ => 0x7E#8
  | .incZp _ => 0xE6#8
  | .incZpx _ => 0xF6#8
  | .incAbs _ => 0xEE#8
  | .incAbsx _ => 0xFE#8
  | .decZp _ => 0xC6#8
  | .decZpx _ => 0xD6#8
  | .decAbs _ => 0xCE#8
  | .decAbsx _ => 0xDE#8
  | .inx => 0xE8#8
  | .iny => 0xC8#8
  | .dex => 0xCA#8
  | .dey => 0x88#8
  | .tax => 0xAA#8
  | .tay => 0xA8#8
  | .txa => 0x8A#8
  | .tya => 0x98#8
  | .tsx => 0xBA#8
  | .txs => 0x9A#8
  | .pha => 0x48#8
  | .php => 0x08#8
  | .pla => 0x68#8
  | .plp => 0x28#8
  | .bpl _ => 0x10#8
  | .bmi _ => 0x30#8
  | .bvc _ => 0x50#8
  | .bvs _ => 0x70#8
  | .bcc _ => 0x90#8
  | .bcs _ => 0xB0#8
  | .bne _ => 0xD0#8
  | .beq _ => 0xF0#8
  | .jmpAbs _ => 0x4C#8
  | .jmpInd _ => 0x6C#8
  | .jsr _ => 0x20#8
  | .rts => 0x60#8
  | .brk => 0x00#8
  | .clc => 0x18#8
  | .sec => 0x38#8
  | .cli => 0x58#8
  | .sei => 0x78#8
  | .clv => 0xB8#8
  | .cld => 0xD8#8
  | .sed => 0xF8#8
  | .nop => 0xEA#8

/-- The cell of R100's table for a pair; none where the table has `--`. PRESUMED (G1, D4, D5: logs 12, 17). -/
def opcodeOfPair (m : Mnemonic) (md : Mode) : Option Byte :=
  match m with
  | .lda =>
    match md with
    | .imm => some 0xA9#8 | .zp => some 0xA5#8 | .zpx => some 0xB5#8 | .abs => some 0xAD#8 | .absx => some 0xBD#8
    | .absy => some 0xB9#8 | .indx => some 0xA1#8 | .indy => some 0xB1#8
    | _ => none
  | .ldx =>
    match md with
    | .imm => some 0xA2#8 | .zp => some 0xA6#8 | .zpy => some 0xB6#8 | .abs => some 0xAE#8 | .absy => some 0xBE#8
    | _ => none
  | .ldy =>
    match md with
    | .imm => some 0xA0#8 | .zp => some 0xA4#8 | .zpx => some 0xB4#8 | .abs => some 0xAC#8 | .absx => some 0xBC#8
    | _ => none
  | .sta =>
    match md with
    | .zp => some 0x85#8 | .zpx => some 0x95#8 | .abs => some 0x8D#8 | .absx => some 0x9D#8 | .absy => some 0x99#8
    | .indx => some 0x81#8 | .indy => some 0x91#8
    | _ => none
  | .stx =>
    match md with
    | .zp => some 0x86#8 | .zpy => some 0x96#8 | .abs => some 0x8E#8
    | _ => none
  | .sty =>
    match md with
    | .zp => some 0x84#8 | .zpx => some 0x94#8 | .abs => some 0x8C#8
    | _ => none
  | .adc =>
    match md with
    | .imm => some 0x69#8 | .zp => some 0x65#8 | .zpx => some 0x75#8 | .abs => some 0x6D#8 | .absx => some 0x7D#8
    | .absy => some 0x79#8 | .indx => some 0x61#8 | .indy => some 0x71#8
    | _ => none
  | .sbc =>
    match md with
    | .imm => some 0xE9#8 | .zp => some 0xE5#8 | .zpx => some 0xF5#8 | .abs => some 0xED#8 | .absx => some 0xFD#8
    | .absy => some 0xF9#8 | .indx => some 0xE1#8 | .indy => some 0xF1#8
    | _ => none
  | .cmp =>
    match md with
    | .imm => some 0xC9#8 | .zp => some 0xC5#8 | .zpx => some 0xD5#8 | .abs => some 0xCD#8 | .absx => some 0xDD#8
    | .absy => some 0xD9#8 | .indx => some 0xC1#8 | .indy => some 0xD1#8
    | _ => none
  | .cpx =>
    match md with
    | .imm => some 0xE0#8 | .zp => some 0xE4#8 | .abs => some 0xEC#8
    | _ => none
  | .cpy =>
    match md with
    | .imm => some 0xC0#8 | .zp => some 0xC4#8 | .abs => some 0xCC#8
    | _ => none
  | .and =>
    match md with
    | .imm => some 0x29#8 | .zp => some 0x25#8 | .zpx => some 0x35#8 | .abs => some 0x2D#8 | .absx => some 0x3D#8
    | .absy => some 0x39#8 | .indx => some 0x21#8 | .indy => some 0x31#8
    | _ => none
  | .ora =>
    match md with
    | .imm => some 0x09#8 | .zp => some 0x05#8 | .zpx => some 0x15#8 | .abs => some 0x0D#8 | .absx => some 0x1D#8
    | .absy => some 0x19#8 | .indx => some 0x01#8 | .indy => some 0x11#8
    | _ => none
  | .eor =>
    match md with
    | .imm => some 0x49#8 | .zp => some 0x45#8 | .zpx => some 0x55#8 | .abs => some 0x4D#8 | .absx => some 0x5D#8
    | .absy => some 0x59#8 | .indx => some 0x41#8 | .indy => some 0x51#8
    | _ => none
  | .bit =>
    match md with
    | .zp => some 0x24#8 | .abs => some 0x2C#8
    | _ => none
  | .asl =>
    match md with
    | .acc => some 0x0A#8 | .zp => some 0x06#8 | .zpx => some 0x16#8 | .abs => some 0x0E#8 | .absx => some 0x1E#8
    | _ => none
  | .lsr =>
    match md with
    | .acc => some 0x4A#8 | .zp => some 0x46#8 | .zpx => some 0x56#8 | .abs => some 0x4E#8 | .absx => some 0x5E#8
    | _ => none
  | .rol =>
    match md with
    | .acc => some 0x2A#8 | .zp => some 0x26#8 | .zpx => some 0x36#8 | .abs => some 0x2E#8 | .absx => some 0x3E#8
    | _ => none
  | .ror =>
    match md with
    | .acc => some 0x6A#8 | .zp => some 0x66#8 | .zpx => some 0x76#8 | .abs => some 0x6E#8 | .absx => some 0x7E#8
    | _ => none
  | .inc =>
    match md with
    | .zp => some 0xE6#8 | .zpx => some 0xF6#8 | .abs => some 0xEE#8 | .absx => some 0xFE#8
    | _ => none
  | .dec =>
    match md with
    | .zp => some 0xC6#8 | .zpx => some 0xD6#8 | .abs => some 0xCE#8 | .absx => some 0xDE#8
    | _ => none
  | .inx =>
    match md with
    | .imp => some 0xE8#8
    | _ => none
  | .iny =>
    match md with
    | .imp => some 0xC8#8
    | _ => none
  | .dex =>
    match md with
    | .imp => some 0xCA#8
    | _ => none
  | .dey =>
    match md with
    | .imp => some 0x88#8
    | _ => none
  | .tax =>
    match md with
    | .imp => some 0xAA#8
    | _ => none
  | .tay =>
    match md with
    | .imp => some 0xA8#8
    | _ => none
  | .txa =>
    match md with
    | .imp => some 0x8A#8
    | _ => none
  | .tya =>
    match md with
    | .imp => some 0x98#8
    | _ => none
  | .tsx =>
    match md with
    | .imp => some 0xBA#8
    | _ => none
  | .txs =>
    match md with
    | .imp => some 0x9A#8
    | _ => none
  | .pha =>
    match md with
    | .imp => some 0x48#8
    | _ => none
  | .php =>
    match md with
    | .imp => some 0x08#8
    | _ => none
  | .pla =>
    match md with
    | .imp => some 0x68#8
    | _ => none
  | .plp =>
    match md with
    | .imp => some 0x28#8
    | _ => none
  | .bpl =>
    match md with
    | .rel => some 0x10#8
    | _ => none
  | .bmi =>
    match md with
    | .rel => some 0x30#8
    | _ => none
  | .bvc =>
    match md with
    | .rel => some 0x50#8
    | _ => none
  | .bvs =>
    match md with
    | .rel => some 0x70#8
    | _ => none
  | .bcc =>
    match md with
    | .rel => some 0x90#8
    | _ => none
  | .bcs =>
    match md with
    | .rel => some 0xB0#8
    | _ => none
  | .bne =>
    match md with
    | .rel => some 0xD0#8
    | _ => none
  | .beq =>
    match md with
    | .rel => some 0xF0#8
    | _ => none
  | .jmp =>
    match md with
    | .abs => some 0x4C#8 | .ind => some 0x6C#8
    | _ => none
  | .jsr =>
    match md with
    | .abs => some 0x20#8
    | _ => none
  | .rts =>
    match md with
    | .imp => some 0x60#8
    | _ => none
  | .brk =>
    match md with
    | .imp => some 0x00#8
    | _ => none
  | .clc =>
    match md with
    | .imp => some 0x18#8
    | _ => none
  | .sec =>
    match md with
    | .imp => some 0x38#8
    | _ => none
  | .cli =>
    match md with
    | .imp => some 0x58#8
    | _ => none
  | .sei =>
    match md with
    | .imp => some 0x78#8
    | _ => none
  | .clv =>
    match md with
    | .imp => some 0xB8#8
    | _ => none
  | .cld =>
    match md with
    | .imp => some 0xD8#8
    | _ => none
  | .sed =>
    match md with
    | .imp => some 0xF8#8
    | _ => none
  | .nop =>
    match md with
    | .imp => some 0xEA#8
    | _ => none

/-- The operand bytes in the order they follow the opcode: "the 1 or 2 operand bytes, little-endian" (R83, R117). -/
def Operand.bytes : Operand → List Byte
  | .imp | .data .acc => []
  | .data (.imm b1) => [b1]
  | .data (.mem (.zp b1)) | .data (.mem (.zpx b1)) | .data (.mem (.zpy b1)) => [b1]
  | .data (.mem (.indx b1)) | .data (.mem (.indy b1)) => [b1]
  | .data (.mem (.abs w)) | .data (.mem (.absx w)) | .data (.mem (.absy w)) => [loByte w, hiByte w]
  | .ind w => [loByte w, hiByte w]
  | .rel off => [off]

/-- The encoder: the opcode, then the operand bytes (R80, R117). -/
def encode (i : Instr) : List Byte := i.opcode :: i.operand.bytes

/-- R125: the offset byte that makes a reference at buffer position `p` reach the label at offset `t`; none is
"label too far". -/
def resolveRelative (t p : Nat) : Option Byte :=
  let offset : Int := (t : Int) - p - 1
  if -128 ≤ offset ∧ offset ≤ 127 then some (BitVec.ofInt 8 offset) else none

/-- R126: `address = code_load_address + label_offset`, written little-endian; none when it is beyond 16 bits. -/
def resolveAbsolute (c : Config) (t : Nat) : Option (List Byte) :=
  let address := c.loadAddr.toNat + t
  if address < 0x10000 then
    some [loByte (BitVec.ofNat 16 address), hiByte (BitVec.ofNat 16 address)]
  else none

/-- Byte `k` of an instruction given as the number `w`, bit 0 being the least significant bit of its first byte. -/
def tableByte (w k : Nat) : Byte := BitVec.ofNat 8 (w / 2 ^ (8 * k))

/-- The longest instruction's bytes of the number `w`, its bits at `nbits` and above being 0. -/
def tableBytes (nbits w : Nat) : List Byte :=
  let v := w % 2 ^ nbits
  [tableByte v 0, tableByte v 1, tableByte v 2]

/-- The instruction the decoder reads from an opcode-table word. -/
def decodeTableWord (nbits w : Nat) : Option Instr :=
  match decode (tableBytes nbits w) with
  | .ok (i, _) => some i
  | .error _ => none

end Sys2Proof
end

