-- ==== Sys2Proof/Machine/State.lean ====
section
/-! DEFINITION. The state vector (spec 10_state.md R20), the reasons a step can stop, and the state after reset
(R42, 70_reset_and_hazards.md R280). Plain data only. -/

namespace Sys2Proof.Machine

/-- The seven status flags (R29). D and I are stored bits with no effect (R34). -/
structure Flags where
  n : Bool
  v : Bool
  b : Bool
  d : Bool
  i : Bool
  z : Bool
  c : Bool
deriving DecidableEq, Repr

/-- The run state `RS` (R39). -/
inductive RunState where
  /-- The engine steps. -/
  | running
  /-- BRK was executed; the shared "stopped" flag is raised. Terminal. -/
  | halted
  /-- The unknown opcode `op` was fetched. Terminal, with no snapshot. -/
  | faulted (op : Byte)
deriving DecidableEq, Repr

/-- The bytes of the memory image that are not zero, as (address, byte) pairs with rising addresses
(`Memory.wf` in Ops.lean is the form). The two device cells are not among them (log 7). -/
abbrev Memory := List Host.Cell

/-- The state vector of R20, with the two memory-mapped cells as fields of their own (R62, R63; log 7), and two
fields of the model's own: the parameters (`cfg`, log 1) and the counter that picks the free values (`ticks`, log 5). -/
structure State where
  /-- The accumulator A (R21). -/
  a : Byte
  /-- The index register X (R22). -/
  x : Byte
  /-- The index register Y (R23). -/
  y : Byte
  /-- The stack pointer SP (R24). -/
  sp : Byte
  /-- The program counter PC (R27). -/
  pc : Addr
  /-- N, V, B, D, I, Z, C (R29). -/
  flags : Flags
  /-- The memory image M (R50) but for the two cells. -/
  mem : Memory
  /-- `M[RAND_ADDR]` (R62). -/
  randCell : Byte
  /-- `M[KEY_ADDR]` (R63). -/
  keyCell : Byte
  /-- The run state RS (R39). -/
  rs : RunState
  /-- The model's own: how many steps have begun (log 5). -/
  ticks : Nat
  /-- The parameters and switches (R8, R10); no step writes them (log 1). -/
  cfg : Config
deriving DecidableEq, Repr

/-- Why a step stops. Both are safe: the spec gives these states no step (R39, R260), and the model goes on nowhere. -/
inductive Fault where
  /-- Raised by `step` from a `halted` state: "`Halted` is final" (R275). Safe (log 9). -/
  | halted
  /-- Raised by `step` from a `faulted op` state: the run ended with the unknown-instruction error of `op`
  (R261, R263). Safe (log 9). -/
  | unknownInstruction (op : Byte)
deriving DecidableEq, Repr

/-- Why something is given no meaning. Both are safe: nothing runs. -/
inductive Refusal where
  /-- An instruction that `exec` rejects by name. No arm of `exec` does. Safe. -/
  | notModelled (mnemonic : String)
  /-- Raised by `State.loadProgram`: the image does not fit above `LOAD_ADDR` and is refused before the run
  (R70, D18). Safe. -/
  | imageDoesNotFit
deriving DecidableEq, Repr

/-- What a meaning answers. -/
abbrev Result := Host.Outcome State Fault Refusal

/-- The start of a run for a setting of the parameters, with no program loaded: R42's values, every memory byte
zero. `ticks` starts at 0 by DESIGN CHOICE (log 5). -/
def State.resetWith (c : Config) : State where
  a := 0x00#8
  x := 0x00#8
  y := 0x00#8
  sp := 0xFF#8
  pc := c.loadAddr
  flags := { n := false, v := false, b := false, d := false, i := false, z := false, c := false }
  mem := []
  randCell := 0x00#8
  keyCell := 0x00#8
  rs := .running
  ticks := 0
  cfg := c

/-- The machine right after reset, at the default parameters (R8, R10, R42). -/
def State.reset : State := State.resetWith Config.default

end Sys2Proof.Machine
end

