-- ==== Sys2Proof/Machine/Ops.lean ====
section
/-! DEFINITION. The named operations over memory, registers and the run state: the byte-wide port (spec
20_memory.md R50 to R57), PC (10_state.md R27), the stack (46_stack.md R220), and the two ends of a run
(60_exceptions.md R261, 48_jump_call_halt.md R247). The core has no trap entry and no trap return (R267, R268). -/

namespace Sys2Proof.Machine

/-! ### The memory image -/

/-- What an address reads as that the list does not hold: the image is "zero-initialized" (R42, R280; log 10). -/
def Memory.unlisted : Byte := 0x00#8

/-- The byte the list holds at an address. -/
def Memory.read : Memory → Nat → Byte
  | [], _ => Memory.unlisted
  | (k, v) :: m, a => if a = k then v else Memory.read m a

/-- Put a byte into the list at its place. -/
def Memory.insert (a : Nat) (v : Byte) : Memory → Memory
  | [] => [(a, v)]
  | (k, w) :: m =>
    if a < k then (a, v) :: (k, w) :: m
    else if a = k then (a, v) :: m
    else (k, w) :: Memory.insert a v m

/-- Take an address out of the list. -/
def Memory.erase (a : Nat) : Memory → Memory
  | [] => []
  | (k, w) :: m => if a = k then Memory.erase a m else (k, w) :: Memory.erase a m

/-- Store a byte, keeping the canonical form: a byte equal to `Memory.unlisted` is not listed. -/
def Memory.write (m : Memory) (a : Nat) (v : Byte) : Memory :=
  if v = Memory.unlisted then Memory.erase a m else Memory.insert a v m

/-- The canonical form: addresses of 16 bits, strictly rising, and no byte an unlisted address reads as anyway. -/
abbrev Memory.wf (m : Memory) : Prop :=
  m.Pairwise (fun p q => p.1 < q.1) ∧ ∀ p ∈ m, p.1 < 0x10000 ∧ p.2 ≠ Memory.unlisted

/-! ### The memory port -/

/-- `MemRead(a, 1)` (R55): the byte the last write to `a` left there. The two device cells answer for their
addresses (R62, R63). Where a setting breaks R9 and both cells share an address, the random cell answers (log 7). -/
def State.readByte (s : State) (a : Addr) : Byte :=
  if a = s.cfg.randAddr then s.randCell
  else if a = s.cfg.keyAddr then s.keyCell
  else s.mem.read a.toNat

/-- `MemWrite(a, 1, v)` (R55): every address is writable (R51), the two cells and the framebuffer included
(R63, R64, D24). The byte goes where `State.readByte` reads that address: one of the three fields changes. -/
def State.writeByte (s : State) (a : Addr) (v : Byte) : State :=
  { s with
    randCell := if a = s.cfg.randAddr then v else s.randCell
    keyCell := if a ≠ s.cfg.randAddr ∧ a = s.cfg.keyAddr then v else s.keyCell
    mem := if a = s.cfg.randAddr ∨ a = s.cfg.keyAddr then s.mem else s.mem.write a.toNat v }

/-! ### Registers -/

/-- `A <- v` (R13). -/
def State.setA (s : State) (v : Byte) : State := { s with a := v }

/-- `X <- v` (R13). -/
def State.setX (s : State) (v : Byte) : State := { s with x := v }

/-- `Y <- v` (R13). -/
def State.setY (s : State) (v : Byte) : State := { s with y := v }

/-- `SP <- v` (R13). -/
def State.setSP (s : State) (v : Byte) : State := { s with sp := v }

/-- `PC <- target` (R13). -/
def State.setPC (s : State) (w : Addr) : State := { s with pc := w }

/-- Write all seven flags. -/
def State.setFlags (s : State) (f : Flags) : State := { s with flags := f }

/-- Write the run state. -/
def State.setRS (s : State) (r : RunState) : State := { s with rs := r }

/-- `PC <- PC + L`, modulo 65 536 (R27, R28). -/
def State.advance (s : State) (len : Nat) : State := s.setPC (s.pc + BitVec.ofNat 16 len)

/-! ### The stack -/

/-- The address SP designates: `0x0100 + zext_16(SP)` (R24). -/
def stackAddr (sp : Byte) : Addr := 0x0100#16 + zext16 sp

/-- `Push(v)` (R220): write, then decrement, modulo 256. PRESUMED (G6, D8: log 15). -/
def State.push (s : State) (v : Byte) : State :=
  (s.writeByte (stackAddr s.sp) v).setSP (s.sp - 1#8)

/-- The state after `Pull()`: SP incremented, modulo 256 (R220). PRESUMED (G6, D8: log 15). -/
def State.pulled (s : State) : State := s.setSP (s.sp + 1#8)

/-- The byte `Pull()` returns: the one the incremented SP designates (R220). PRESUMED (G6, D8: log 15). -/
def State.pullByte (s : State) : Byte := s.readByte (stackAddr (s.sp + 1#8))

/-! ### The ends of a run -/

/-- `raise UnknownInstruction(op)` (R261): `RS <- Faulted(op)` and nothing else. It is the only exception (R262), and
no handler is entered (R267). A next state, since RS is state (R20, R39; log 8). -/
def raiseUnknown (op : Byte) (s : State) : Result := .next (s.setRS (.faulted op))

/-- `halt` (R13): `RS <- Halted` (R247). -/
def State.halt (s : State) : State := s.setRS .halted

end Sys2Proof.Machine
end

