-- ==== Sys2Proof/Machine/Flags.lean ====
section
/-! DEFINITION. Every flag computation: SetNZ (spec 10_state.md R31), the adder and the comparison
(41_add_sub.md R160, R166), the shifts (43_shift.md R190 to R193), and the packed status byte (R35, R36). -/

namespace Sys2Proof.Machine

/-- `SetNZ(v)` on the flags (R31): N is bit 7 of `v`, Z says `v` is zero. -/
def Flags.setNZ (f : Flags) (v : Byte) : Flags := { f with n := v.getLsbD 7, z := decide (v = 0#8) }

/-- `SetNZ(v)` (R31). -/
def State.setNZ (s : State) (v : Byte) : State := s.setFlags (s.flags.setNZ v)

/-- `C <- c`. -/
def State.setC (s : State) (c : Bool) : State := s.setFlags { s.flags with c := c }

/-- `V <- v`. -/
def State.setV (s : State) (v : Bool) : State := s.setFlags { s.flags with v := v }

/-- `N <- n`. -/
def State.setN (s : State) (n : Bool) : State := s.setFlags { s.flags with n := n }

/-- `Z <- z`. -/
def State.setZ (s : State) (z : Bool) : State := s.setFlags { s.flags with z := z }

/-- `B <- b`. -/
def State.setB (s : State) (b : Bool) : State := s.setFlags { s.flags with b := b }

/-- `D <- d`. -/
def State.setD (s : State) (d : Bool) : State := s.setFlags { s.flags with d := d }

/-- `I <- i`. -/
def State.setI (s : State) (i : Bool) : State := s.setFlags { s.flags with i := i }

/-- What the ALU answers: the result byte, the carry, the overflow. -/
structure AluResult where
  r : Byte
  c : Bool
  v : Bool
deriving DecidableEq, Repr

/-- A flag as the value 0 or 1 (R13). -/
def bit16 (b : Bool) : Addr := (BitVec.ofBool b).setWidth 16

/-- `AddCore(a, b, cin)` (R160): the carry is bit 8 of the 16-bit sum, the overflow compares the sign bits. Binary
whatever D is (R161). -/
def addCore (a b : Byte) (cin : Bool) : AluResult :=
  let t : Addr := zext16 a + zext16 b + bit16 cin
  let r : Byte := t.extractLsb' 0 8
  { r := r, c := t.getLsbD 8, v := ((a ^^^ r) &&& (b ^^^ r)).getLsbD 7 }

/-- `CompareCore(r, m)` (R166): C is the unsigned `r >= m`, N and Z come from the difference, V is not written.
PRESUMED (G10, D5, D16: log 17). -/
def State.compareCore (s : State) (r m : Byte) : State :=
  (s.setC (decide (m ≤ r))).setNZ (r - m)

/-- What a shift or rotate answers: the result byte and the bit shifted out (R190 to R193). -/
structure ShiftResult where
  r : Byte
  c : Bool
deriving DecidableEq, Repr

/-- A flag as a byte 0 or 1. -/
def bit8 (b : Bool) : Byte := (BitVec.ofBool b).setWidth 8

/-- R190: `r = (v << 1) & 0xFF`, C from bit 7; the old carry is not used. PRESUMED (G9, D16: log 16). -/
def aslCore (v : Byte) (_c : Bool) : ShiftResult := { r := v <<< 1, c := v.getLsbD 7 }

/-- R191: `r = v >> 1`, C from bit 0; the old carry is not used. PRESUMED (G9, D16: log 16). -/
def lsrCore (v : Byte) (_c : Bool) : ShiftResult := { r := v >>> 1, c := v.getLsbD 0 }

/-- R192: the old carry enters bit 0, bit 7 leaves into C. PRESUMED (G9, D16: log 16). -/
def rolCore (v : Byte) (c : Bool) : ShiftResult := { r := (v <<< 1) ||| bit8 c, c := v.getLsbD 7 }

/-- R193: the old carry enters bit 7, bit 0 leaves into C. PRESUMED (G9, D16: log 16). -/
def rorCore (v : Byte) (c : Bool) : ShiftResult := { r := (v >>> 1) ||| (bit8 c <<< 7), c := v.getLsbD 0 }

/-- `Pack()` (R35): N V 1 B D I Z C from bit 7 down; bit 5 is forced to 1, bit 4 is the B flag as it stands (C4).
The bit positions are PRESUMED (G5, D7: log 14). -/
def Flags.pack (f : Flags) : Byte :=
  bit8 f.n <<< 7 ||| bit8 f.v <<< 6 ||| 1#8 <<< 5 ||| bit8 f.b <<< 4 ||| bit8 f.d <<< 3 ||| bit8 f.i <<< 2
    ||| bit8 f.z <<< 1 ||| bit8 f.c

/-- `Unpack(v)` (R36): all seven flags; bit 5 is ignored. The bit positions are PRESUMED (G5, D7: log 14). -/
def Flags.unpack (v : Byte) : Flags where
  n := v.getLsbD 7
  v := v.getLsbD 6
  b := v.getLsbD 4
  d := v.getLsbD 3
  i := v.getLsbD 2
  z := v.getLsbD 1
  c := v.getLsbD 0

end Sys2Proof.Machine
end

