-- ==== Sys2Proof/Machine/Operands.lean ====
section
/-! DEFINITION. Every operand form (spec 30_encoding.md R84 to R95): effective addresses, the value of an operand,
the JMP pointer, and the branch target. The formulas are PRESUMED (G3, G4, D4, D10, D11, D12: logs 3, 13, 19). -/

namespace Sys2Proof.Machine

/-- A zero-page address indexed by a register (R88, R89): inside page zero at the default of `ZP_INDEX_WRAP`. -/
def zpIndexed (c : Config) (b1 idx : Byte) : Addr :=
  if c.zpIndexWrap then zext16 (b1 + idx) else zext16 b1 + zext16 idx

/-- Where the high byte of a zero-page pointer at `p` stands (R57, R93, R94): `(p + 1) & 0xFF` at the default, the
next address otherwise. -/
def zpNext (c : Config) (p : Addr) : Addr :=
  if c.zpIndexWrap then zext16 (loByte p + 1#8) else p + 1#16

/-- A 16-bit pointer read low byte first, each byte by `MemRead` (R56, R57). -/
def State.readPair (s : State) (lo hi : Addr) : Addr := hiLo (s.readByte hi) (s.readByte lo)

/-- The pointer in page zero at `p` (R93, R94). -/
def State.zpPointer (s : State) (p : Addr) : Addr := s.readPair p (zpNext s.cfg p)

/-- `EA(mode)` (R84, R86 to R91, R93, R94). -/
def effAddr (m : MemOperand) (s : State) : Addr :=
  match m with
  | .zp b1 => zext16 b1
  | .zpx b1 => zpIndexed s.cfg b1 s.x
  | .zpy b1 => zpIndexed s.cfg b1 s.y
  | .abs w => w
  | .absx w => w + zext16 s.x
  | .absy w => w + zext16 s.y
  | .indx b1 => s.zpPointer (zpIndexed s.cfg b1 s.x)
  | .indy b1 => s.zpPointer (zext16 b1) + zext16 s.y

/-- `Operand(mode)` (R84). -/
def operandValue (d : DataOperand) (s : State) : Byte :=
  match d with
  | .acc => s.a
  | .imm b1 => b1
  | .mem m => s.readByte (effAddr m s)

/-- The length of the instruction that has this operand (R81). -/
def operandLength (d : DataOperand) : Nat := d.mode.length

/-- Where the high byte of the `JMP (ptr)` target stands (R92): `ptr + 1` modulo 65 536 at the default, the start of
the same page with `JMP_IND_PAGE_WRAP`. -/
def jmpPointerHigh (c : Config) (ptr : Addr) : Addr :=
  if c.jmpIndPageWrap then hiLo (hiByte ptr) (loByte ptr + 1#8) else ptr + 1#16

/-- The target of `JMP (ptr)` (R92). -/
def State.jmpTarget (s : State) (ptr : Addr) : Addr := s.readPair ptr (jmpPointerHigh s.cfg ptr)

/-- The target of a branch at `pc` with offset byte `off` (R95, R230). -/
def branchTarget (pc : Addr) (off : Byte) : Addr := pc + 2#16 + sext16 off

end Sys2Proof.Machine
end

