-- ==== Sys2Proof/Machine/AddSub.lean ====
section
/-! DEFINITION. Add, subtract and compare (spec 41_add_sub.md R162 to R169). Always binary (R161). -/

namespace Sys2Proof.Machine

/-- Write an adder result (R162, R163): `A <- r; C <- c; V <- v; SetNZ(r)`. -/
def State.setSum (s : State) (t : AluResult) : State :=
  (((s.setA t.r).setC t.c).setV t.v).setNZ t.r

/-- ADC's effect (R162). -/
def adc (d : DataOperand) (s : State) : Result :=
  .next ((s.setSum (addCore s.a (operandValue d s) s.flags.c)).advance (operandLength d))

/-- SBC's effect (R163): the adder on the complement, C = 1 meaning no borrow. -/
def sbc (d : DataOperand) (s : State) : Result :=
  .next ((s.setSum (addCore s.a (~~~(operandValue d s)) s.flags.c)).advance (operandLength d))

/-- The effect of a compare of register value `r` (R167 to R169). PRESUMED (G10, D5: log 17). -/
def compareReg (r : Byte) (d : DataOperand) (s : State) : Result :=
  .next ((s.compareCore r (operandValue d s)).advance (operandLength d))

/-- ADC, `imm` (R162). -/
def execAdcImm (b1 : Byte) (s : State) : Result := adc (.imm b1) s

/-- ADC, `zp` (R162). -/
def execAdcZp (b1 : Byte) (s : State) : Result := adc (.mem (.zp b1)) s

/-- ADC, `zpx` (R162). -/
def execAdcZpx (b1 : Byte) (s : State) : Result := adc (.mem (.zpx b1)) s

/-- ADC, `abs` (R162). -/
def execAdcAbs (w : Addr) (s : State) : Result := adc (.mem (.abs w)) s

/-- ADC, `absx` (R162). -/
def execAdcAbsx (w : Addr) (s : State) : Result := adc (.mem (.absx w)) s

/-- ADC, `absy` (R162). -/
def execAdcAbsy (w : Addr) (s : State) : Result := adc (.mem (.absy w)) s

/-- ADC, `indx` (R162). -/
def execAdcIndx (b1 : Byte) (s : State) : Result := adc (.mem (.indx b1)) s

/-- ADC, `indy` (R162). -/
def execAdcIndy (b1 : Byte) (s : State) : Result := adc (.mem (.indy b1)) s

/-- SBC, `imm` (R163). -/
def execSbcImm (b1 : Byte) (s : State) : Result := sbc (.imm b1) s

/-- SBC, `zp` (R163). -/
def execSbcZp (b1 : Byte) (s : State) : Result := sbc (.mem (.zp b1)) s

/-- SBC, `zpx` (R163). -/
def execSbcZpx (b1 : Byte) (s : State) : Result := sbc (.mem (.zpx b1)) s

/-- SBC, `abs` (R163). -/
def execSbcAbs (w : Addr) (s : State) : Result := sbc (.mem (.abs w)) s

/-- SBC, `absx` (R163). -/
def execSbcAbsx (w : Addr) (s : State) : Result := sbc (.mem (.absx w)) s

/-- SBC, `absy` (R163). -/
def execSbcAbsy (w : Addr) (s : State) : Result := sbc (.mem (.absy w)) s

/-- SBC, `indx` (R163). -/
def execSbcIndx (b1 : Byte) (s : State) : Result := sbc (.mem (.indx b1)) s

/-- SBC, `indy` (R163). -/
def execSbcIndy (b1 : Byte) (s : State) : Result := sbc (.mem (.indy b1)) s

/-- CMP, `imm` (R167). -/
def execCmpImm (b1 : Byte) (s : State) : Result := compareReg s.a (.imm b1) s

/-- CMP, `zp` (R167). -/
def execCmpZp (b1 : Byte) (s : State) : Result := compareReg s.a (.mem (.zp b1)) s

/-- CMP, `zpx` (R167). -/
def execCmpZpx (b1 : Byte) (s : State) : Result := compareReg s.a (.mem (.zpx b1)) s

/-- CMP, `abs` (R167). -/
def execCmpAbs (w : Addr) (s : State) : Result := compareReg s.a (.mem (.abs w)) s

/-- CMP, `absx` (R167). -/
def execCmpAbsx (w : Addr) (s : State) : Result := compareReg s.a (.mem (.absx w)) s

/-- CMP, `absy` (R167). -/
def execCmpAbsy (w : Addr) (s : State) : Result := compareReg s.a (.mem (.absy w)) s

/-- CMP, `indx` (R167). -/
def execCmpIndx (b1 : Byte) (s : State) : Result := compareReg s.a (.mem (.indx b1)) s

/-- CMP, `indy` (R167). -/
def execCmpIndy (b1 : Byte) (s : State) : Result := compareReg s.a (.mem (.indy b1)) s

/-- CPX, `imm` (R168). -/
def execCpxImm (b1 : Byte) (s : State) : Result := compareReg s.x (.imm b1) s

/-- CPX, `zp` (R168). -/
def execCpxZp (b1 : Byte) (s : State) : Result := compareReg s.x (.mem (.zp b1)) s

/-- CPX, `abs` (R168). -/
def execCpxAbs (w : Addr) (s : State) : Result := compareReg s.x (.mem (.abs w)) s

/-- CPY, `imm` (R169). -/
def execCpyImm (b1 : Byte) (s : State) : Result := compareReg s.y (.imm b1) s

/-- CPY, `zp` (R169). -/
def execCpyZp (b1 : Byte) (s : State) : Result := compareReg s.y (.mem (.zp b1)) s

/-- CPY, `abs` (R169). -/
def execCpyAbs (w : Addr) (s : State) : Result := compareReg s.y (.mem (.abs w)) s

end Sys2Proof.Machine
end

