-- ==== Sys2Proof/Machine/Branch.lean ====
section
/-! DEFINITION. Conditional branches (spec 47_branch.md R230 to R238). The mnemonics and their conditions are
PRESUMED (G12, D4: log 18). -/

namespace Sys2Proof.Machine

/-- R230: PC advances by 2, and by the signed offset too if the condition holds; no flag is written. -/
def branch (cond : Bool) (off : Byte) (s : State) : Result :=
  .next (if cond then s.setPC (branchTarget s.pc off) else s.advance Mode.rel.length)

/-- BPL (R231). -/
def execBpl (off : Byte) (s : State) : Result := branch (!s.flags.n) off s

/-- BMI (R232). -/
def execBmi (off : Byte) (s : State) : Result := branch (s.flags.n) off s

/-- BVC (R233). -/
def execBvc (off : Byte) (s : State) : Result := branch (!s.flags.v) off s

/-- BVS (R234). -/
def execBvs (off : Byte) (s : State) : Result := branch (s.flags.v) off s

/-- BCC (R235). -/
def execBcc (off : Byte) (s : State) : Result := branch (!s.flags.c) off s

/-- BCS (R236). -/
def execBcs (off : Byte) (s : State) : Result := branch (s.flags.c) off s

/-- BNE (R237). -/
def execBne (off : Byte) (s : State) : Result := branch (!s.flags.z) off s

/-- BEQ (R238). -/
def execBeq (off : Byte) (s : State) : Result := branch (s.flags.z) off s

end Sys2Proof.Machine
end

