-- ==== Sys2Proof/Machine/FlagNop.lean ====
section
/-! DEFINITION. Flag set and clear, and NOP (spec 49_flags_nop.md R250 to R257). All are tier G: PRESUMED (G11, D5:
log 17). -/

namespace Sys2Proof.Machine

/-- The end of every instruction of this file: `PC <- PC + 1`. -/
def flagDone (s : State) : Result := .next (s.advance Mode.imp.length)

/-- CLC (R250). -/
def execClc (s : State) : Result := flagDone (s.setC false)

/-- SEC (R251). -/
def execSec (s : State) : Result := flagDone (s.setC true)

/-- CLI (R252). -/
def execCli (s : State) : Result := flagDone (s.setI false)

/-- SEI (R253). -/
def execSei (s : State) : Result := flagDone (s.setI true)

/-- CLV (R254). -/
def execClv (s : State) : Result := flagDone (s.setV false)

/-- CLD (R255). -/
def execCld (s : State) : Result := flagDone (s.setD false)

/-- SED (R256). -/
def execSed (s : State) : Result := flagDone (s.setD true)

/-- NOP (R257). -/
def execNop (s : State) : Result := flagDone s

end Sys2Proof.Machine
end

