-- ==== Sys2Proof/Machine/IncDec.lean ====
section
/-! DEFINITION. Increment and decrement (spec 44_incdec.md R200 to R205), modulo 256. That N and Z are set is
PRESUMED (G9, D16: log 16). -/

namespace Sys2Proof.Machine

/-- INC and DEC on memory (R200, R201): one read and one write of the same address, `d` being added modulo 256. -/
def stepMem (d : Byte) (m : MemOperand) (s : State) : Result :=
  let ea := effAddr m s
  let r := s.readByte ea + d
  .next (((s.writeByte ea r).setNZ r).advance m.mode.length)

/-- INX and DEX (R202, R204). -/
def stepX (d : Byte) (s : State) : Result :=
  let r := s.x + d
  .next (((s.setX r).setNZ r).advance Mode.imp.length)

/-- INY and DEY (R203, R205). -/
def stepY (d : Byte) (s : State) : Result :=
  let r := s.y + d
  .next (((s.setY r).setNZ r).advance Mode.imp.length)

/-- INC, `zp` (R200). -/
def execIncZp (b1 : Byte) (s : State) : Result := stepMem 1#8 (.zp b1) s

/-- INC, `zpx` (R200). -/
def execIncZpx (b1 : Byte) (s : State) : Result := stepMem 1#8 (.zpx b1) s

/-- INC, `abs` (R200). -/
def execIncAbs (w : Addr) (s : State) : Result := stepMem 1#8 (.abs w) s

/-- INC, `absx` (R200). -/
def execIncAbsx (w : Addr) (s : State) : Result := stepMem 1#8 (.absx w) s

/-- DEC, `zp` (R201). -/
def execDecZp (b1 : Byte) (s : State) : Result := stepMem (-1#8) (.zp b1) s

/-- DEC, `zpx` (R201). -/
def execDecZpx (b1 : Byte) (s : State) : Result := stepMem (-1#8) (.zpx b1) s

/-- DEC, `abs` (R201). -/
def execDecAbs (w : Addr) (s : State) : Result := stepMem (-1#8) (.abs w) s

/-- DEC, `absx` (R201). -/
def execDecAbsx (w : Addr) (s : State) : Result := stepMem (-1#8) (.absx w) s

/-- INX (R202). -/
def execInx (s : State) : Result := stepX 1#8 s

/-- INY (R203). -/
def execIny (s : State) : Result := stepY 1#8 s

/-- DEX (R204). -/
def execDex (s : State) : Result := stepX (-1#8) s

/-- DEY (R205). -/
def execDey (s : State) : Result := stepY (-1#8) s

end Sys2Proof.Machine
end

