-- ==== Sys2Proof/Machine/JumpCallHalt.lean ====
section
/-! DEFINITION. Jumps, subroutine call and return, and the halt (spec 48_jump_call_halt.md R241 to R247). -/

namespace Sys2Proof.Machine

/-- JMP, `abs` (R241, R87). -/
def execJmpAbs (w : Addr) (s : State) : Result := .next (s.setPC (effAddr (.abs w) s))

/-- JMP, `ind` (R241, R92). -/
def execJmpInd (w : Addr) (s : State) : Result := .next (s.setPC (s.jmpTarget w))

/-- JSR (R244): `PC + JSR_RET_BIAS` is pushed high byte first. The value is PRESUMED (G7, D9: log 15). -/
def execJsr (w : Addr) (s : State) : Result :=
  let ret := s.pc + s.cfg.jsrRetBias
  .next (((s.push (hiByte ret)).push (loByte ret)).setPC w)

/-- RTS (R245): low byte, then high byte (C1), plus `3 - JSR_RET_BIAS`. PRESUMED (G7, D9: log 15). -/
def execRts (s : State) : Result :=
  let lo := s.pullByte
  let s1 := s.pulled
  let hi := s1.pullByte
  .next (s1.pulled.setPC (hiLo hi lo + (3#16 - s.cfg.jsrRetBias)))

/-- BRK (R247): B is set, PC advances by 1, the run halts; nothing is pushed and no vector is read (C3). -/
def execBrk (s : State) : Result := .next ((s.setB true).advance Mode.imp.length).halt

end Sys2Proof.Machine
end

