-- ==== Sys2Proof/Machine/LoadStore.lean ====
section
/-! DEFINITION. Loads and stores (spec 40_load_store.md R140 to R145). -/

namespace Sys2Proof.Machine

/-- LDA's effect (R140): `v = Operand(mode); A <- v; SetNZ(v); PC <- PC + length`. -/
def lda (d : DataOperand) (s : State) : Result :=
  let v := operandValue d s
  .next (((s.setA v).setNZ v).advance (operandLength d))

/-- LDX's effect (R141). -/
def ldx (d : DataOperand) (s : State) : Result :=
  let v := operandValue d s
  .next (((s.setX v).setNZ v).advance (operandLength d))

/-- LDY's effect (R142). -/
def ldy (d : DataOperand) (s : State) : Result :=
  let v := operandValue d s
  .next (((s.setY v).setNZ v).advance (operandLength d))

/-- The effect of a store of `v` (R143 to R145): `MemWrite(EA(mode), 1, v); PC <- PC + length`; no flag. -/
def store (m : MemOperand) (v : Byte) (s : State) : Result :=
  .next ((s.writeByte (effAddr m s) v).advance m.mode.length)

/-- LDA, `imm` (R140). -/
def execLdaImm (b1 : Byte) (s : State) : Result := lda (.imm b1) s

/-- LDA, `zp` (R140). -/
def execLdaZp (b1 : Byte) (s : State) : Result := lda (.mem (.zp b1)) s

/-- LDA, `zpx` (R140). -/
def execLdaZpx (b1 : Byte) (s : State) : Result := lda (.mem (.zpx b1)) s

/-- LDA, `abs` (R140). -/
def execLdaAbs (w : Addr) (s : State) : Result := lda (.mem (.abs w)) s

/-- LDA, `absx` (R140). -/
def execLdaAbsx (w : Addr) (s : State) : Result := lda (.mem (.absx w)) s

/-- LDA, `absy` (R140). -/
def execLdaAbsy (w : Addr) (s : State) : Result := lda (.mem (.absy w)) s

/-- LDA, `indx` (R140). -/
def execLdaIndx (b1 : Byte) (s : State) : Result := lda (.mem (.indx b1)) s

/-- LDA, `indy` (R140). -/
def execLdaIndy (b1 : Byte) (s : State) : Result := lda (.mem (.indy b1)) s

/-- LDX, `imm` (R141). -/
def execLdxImm (b1 : Byte) (s : State) : Result := ldx (.imm b1) s

/-- LDX, `zp` (R141). -/
def execLdxZp (b1 : Byte) (s : State) : Result := ldx (.mem (.zp b1)) s

/-- LDX, `zpy` (R141). -/
def execLdxZpy (b1 : Byte) (s : State) : Result := ldx (.mem (.zpy b1)) s

/-- LDX, `abs` (R141). -/
def execLdxAbs (w : Addr) (s : State) : Result := ldx (.mem (.abs w)) s

/-- LDX, `absy` (R141). -/
def execLdxAbsy (w : Addr) (s : State) : Result := ldx (.mem (.absy w)) s

/-- LDY, `imm` (R142). -/
def execLdyImm (b1 : Byte) (s : State) : Result := ldy (.imm b1) s

/-- LDY, `zp` (R142). -/
def execLdyZp (b1 : Byte) (s : State) : Result := ldy (.mem (.zp b1)) s

/-- LDY, `zpx` (R142). -/
def execLdyZpx (b1 : Byte) (s : State) : Result := ldy (.mem (.zpx b1)) s

/-- LDY, `abs` (R142). -/
def execLdyAbs (w : Addr) (s : State) : Result := ldy (.mem (.abs w)) s

/-- LDY, `absx` (R142). -/
def execLdyAbsx (w : Addr) (s : State) : Result := ldy (.mem (.absx w)) s

/-- STA, `zp` (R143). -/
def execStaZp (b1 : Byte) (s : State) : Result := store (.zp b1) s.a s

/-- STA, `zpx` (R143). -/
def execStaZpx (b1 : Byte) (s : State) : Result := store (.zpx b1) s.a s

/-- STA, `abs` (R143). -/
def execStaAbs (w : Addr) (s : State) : Result := store (.abs w) s.a s

/-- STA, `absx` (R143). -/
def execStaAbsx (w : Addr) (s : State) : Result := store (.absx w) s.a s

/-- STA, `absy` (R143). -/
def execStaAbsy (w : Addr) (s : State) : Result := store (.absy w) s.a s

/-- STA, `indx` (R143). -/
def execStaIndx (b1 : Byte) (s : State) : Result := store (.indx b1) s.a s

/-- STA, `indy` (R143). -/
def execStaIndy (b1 : Byte) (s : State) : Result := store (.indy b1) s.a s

/-- STX, `zp` (R144). -/
def execStxZp (b1 : Byte) (s : State) : Result := store (.zp b1) s.x s

/-- STX, `zpy` (R144). -/
def execStxZpy (b1 : Byte) (s : State) : Result := store (.zpy b1) s.x s

/-- STX, `abs` (R144). -/
def execStxAbs (w : Addr) (s : State) : Result := store (.abs w) s.x s

/-- STY, `zp` (R145). -/
def execStyZp (b1 : Byte) (s : State) : Result := store (.zp b1) s.y s

/-- STY, `zpx` (R145). -/
def execStyZpx (b1 : Byte) (s : State) : Result := store (.zpx b1) s.y s

/-- STY, `abs` (R145). -/
def execStyAbs (w : Addr) (s : State) : Result := store (.abs w) s.y s

end Sys2Proof.Machine
end

