-- ==== Sys2Proof/Machine/Logic.lean ====
section
/-! DEFINITION. Bitwise logic and BIT (spec 42_logic.md R180 to R183). -/

namespace Sys2Proof.Machine

/-- The effect of a logic result `r` (R180 to R182): `A <- r; SetNZ(r); PC <- PC + length`. That N and Z are set is
PRESUMED (G9, D16: log 16). -/
def logicResult (r : Byte) (d : DataOperand) (s : State) : Result :=
  .next (((s.setA r).setNZ r).advance (operandLength d))

/-- BIT's effect (R183): Z from `A & m`, N and V from bits 7 and 6 of the memory byte. PRESUMED (G8, D15: log 16). -/
def bitTest (mo : MemOperand) (s : State) : Result :=
  let m := operandValue (.mem mo) s
  .next ((((s.setZ (decide (s.a &&& m = 0#8))).setN (m.getLsbD 7)).setV (m.getLsbD 6)).advance mo.mode.length)

/-- AND, `imm` (R180). -/
def execAndImm (b1 : Byte) (s : State) : Result := logicResult (s.a &&& operandValue (.imm b1) s) (.imm b1) s

/-- AND, `zp` (R180). -/
def execAndZp (b1 : Byte) (s : State) : Result := logicResult (s.a &&& operandValue (.mem (.zp b1)) s) (.mem (.zp b1)) s

/-- AND, `zpx` (R180). -/
def execAndZpx (b1 : Byte) (s : State) : Result := logicResult (s.a &&& operandValue (.mem (.zpx b1)) s) (.mem (.zpx b1)) s

/-- AND, `abs` (R180). -/
def execAndAbs (w : Addr) (s : State) : Result := logicResult (s.a &&& operandValue (.mem (.abs w)) s) (.mem (.abs w)) s

/-- AND, `absx` (R180). -/
def execAndAbsx (w : Addr) (s : State) : Result := logicResult (s.a &&& operandValue (.mem (.absx w)) s) (.mem (.absx w)) s

/-- AND, `absy` (R180). -/
def execAndAbsy (w : Addr) (s : State) : Result := logicResult (s.a &&& operandValue (.mem (.absy w)) s) (.mem (.absy w)) s

/-- AND, `indx` (R180). -/
def execAndIndx (b1 : Byte) (s : State) : Result := logicResult (s.a &&& operandValue (.mem (.indx b1)) s) (.mem (.indx b1)) s

/-- AND, `indy` (R180). -/
def execAndIndy (b1 : Byte) (s : State) : Result := logicResult (s.a &&& operandValue (.mem (.indy b1)) s) (.mem (.indy b1)) s

/-- ORA, `imm` (R181). -/
def execOraImm (b1 : Byte) (s : State) : Result := logicResult (s.a ||| operandValue (.imm b1) s) (.imm b1) s

/-- ORA, `zp` (R181). -/
def execOraZp (b1 : Byte) (s : State) : Result := logicResult (s.a ||| operandValue (.mem (.zp b1)) s) (.mem (.zp b1)) s

/-- ORA, `zpx` (R181). -/
def execOraZpx (b1 : Byte) (s : State) : Result := logicResult (s.a ||| operandValue (.mem (.zpx b1)) s) (.mem (.zpx b1)) s

/-- ORA, `abs` (R181). -/
def execOraAbs (w : Addr) (s : State) : Result := logicResult (s.a ||| operandValue (.mem (.abs w)) s) (.mem (.abs w)) s

/-- ORA, `absx` (R181). -/
def execOraAbsx (w : Addr) (s : State) : Result := logicResult (s.a ||| operandValue (.mem (.absx w)) s) (.mem (.absx w)) s

/-- ORA, `absy` (R181). -/
def execOraAbsy (w : Addr) (s : State) : Result := logicResult (s.a ||| operandValue (.mem (.absy w)) s) (.mem (.absy w)) s

/-- ORA, `indx` (R181). -/
def execOraIndx (b1 : Byte) (s : State) : Result := logicResult (s.a ||| operandValue (.mem (.indx b1)) s) (.mem (.indx b1)) s

/-- ORA, `indy` (R181). -/
def execOraIndy (b1 : Byte) (s : State) : Result := logicResult (s.a ||| operandValue (.mem (.indy b1)) s) (.mem (.indy b1)) s

/-- EOR, `imm` (R182). -/
def execEorImm (b1 : Byte) (s : State) : Result := logicResult (s.a ^^^ operandValue (.imm b1) s) (.imm b1) s

/-- EOR, `zp` (R182). -/
def execEorZp (b1 : Byte) (s : State) : Result := logicResult (s.a ^^^ operandValue (.mem (.zp b1)) s) (.mem (.zp b1)) s

/-- EOR, `zpx` (R182). -/
def execEorZpx (b1 : Byte) (s : State) : Result := logicResult (s.a ^^^ operandValue (.mem (.zpx b1)) s) (.mem (.zpx b1)) s

/-- EOR, `abs` (R182). -/
def execEorAbs (w : Addr) (s : State) : Result := logicResult (s.a ^^^ operandValue (.mem (.abs w)) s) (.mem (.abs w)) s

/-- EOR, `absx` (R182). -/
def execEorAbsx (w : Addr) (s : State) : Result := logicResult (s.a ^^^ operandValue (.mem (.absx w)) s) (.mem (.absx w)) s

/-- EOR, `absy` (R182). -/
def execEorAbsy (w : Addr) (s : State) : Result := logicResult (s.a ^^^ operandValue (.mem (.absy w)) s) (.mem (.absy w)) s

/-- EOR, `indx` (R182). -/
def execEorIndx (b1 : Byte) (s : State) : Result := logicResult (s.a ^^^ operandValue (.mem (.indx b1)) s) (.mem (.indx b1)) s

/-- EOR, `indy` (R182). -/
def execEorIndy (b1 : Byte) (s : State) : Result := logicResult (s.a ^^^ operandValue (.mem (.indy b1)) s) (.mem (.indy b1)) s

/-- BIT, `zp` (R183). -/
def execBitZp (b1 : Byte) (s : State) : Result := bitTest (.zp b1) s

/-- BIT, `abs` (R183). -/
def execBitAbs (w : Addr) (s : State) : Result := bitTest (.abs w) s

end Sys2Proof.Machine
end

