-- ==== Sys2Proof/Machine/Shift.lean ====
section
/-! DEFINITION. Shifts and rotates (spec 43_shift.md R190 to R193), on A or on a byte of memory. -/

namespace Sys2Proof.Machine

/-- The accumulator form of a shift (R190 to R193): C from the bit shifted out, N and Z from the result. -/
def shiftAcc (f : Byte → Bool → ShiftResult) (s : State) : Result :=
  let t := f s.a s.flags.c
  .next ((((s.setC t.c).setA t.r).setNZ t.r).advance Mode.acc.length)

/-- The memory form of a shift (R190 to R193): one read and one write of the same address (R60, R84). -/
def shiftMem (f : Byte → Bool → ShiftResult) (m : MemOperand) (s : State) : Result :=
  let ea := effAddr m s
  let t := f (s.readByte ea) s.flags.c
  .next ((((s.setC t.c).writeByte ea t.r).setNZ t.r).advance m.mode.length)

/-- ASL, `acc` (R190). -/
def execAslAcc (s : State) : Result := shiftAcc aslCore s

/-- ASL, `zp` (R190). -/
def execAslZp (b1 : Byte) (s : State) : Result := shiftMem aslCore (.zp b1) s

/-- ASL, `zpx` (R190). -/
def execAslZpx (b1 : Byte) (s : State) : Result := shiftMem aslCore (.zpx b1) s

/-- ASL, `abs` (R190). -/
def execAslAbs (w : Addr) (s : State) : Result := shiftMem aslCore (.abs w) s

/-- ASL, `absx` (R190). -/
def execAslAbsx (w : Addr) (s : State) : Result := shiftMem aslCore (.absx w) s

/-- LSR, `acc` (R191). -/
def execLsrAcc (s : State) : Result := shiftAcc lsrCore s

/-- LSR, `zp` (R191). -/
def execLsrZp (b1 : Byte) (s : State) : Result := shiftMem lsrCore (.zp b1) s

/-- LSR, `zpx` (R191). -/
def execLsrZpx (b1 : Byte) (s : State) : Result := shiftMem lsrCore (.zpx b1) s

/-- LSR, `abs` (R191). -/
def execLsrAbs (w : Addr) (s : State) : Result := shiftMem lsrCore (.abs w) s

/-- LSR, `absx` (R191). -/
def execLsrAbsx (w : Addr) (s : State) : Result := shiftMem lsrCore (.absx w) s

/-- ROL, `acc` (R192). -/
def execRolAcc (s : State) : Result := shiftAcc rolCore s

/-- ROL, `zp` (R192). -/
def execRolZp (b1 : Byte) (s : State) : Result := shiftMem rolCore (.zp b1) s

/-- ROL, `zpx` (R192). -/
def execRolZpx (b1 : Byte) (s : State) : Result := shiftMem rolCore (.zpx b1) s

/-- ROL, `abs` (R192). -/
def execRolAbs (w : Addr) (s : State) : Result := shiftMem rolCore (.abs w) s

/-- ROL, `absx` (R192). -/
def execRolAbsx (w : Addr) (s : State) : Result := shiftMem rolCore (.absx w) s

/-- ROR, `acc` (R193). -/
def execRorAcc (s : State) : Result := shiftAcc rorCore s

/-- ROR, `zp` (R193). -/
def execRorZp (b1 : Byte) (s : State) : Result := shiftMem rorCore (.zp b1) s

/-- ROR, `zpx` (R193). -/
def execRorZpx (b1 : Byte) (s : State) : Result := shiftMem rorCore (.zpx b1) s

/-- ROR, `abs` (R193). -/
def execRorAbs (w : Addr) (s : State) : Result := shiftMem rorCore (.abs w) s

/-- ROR, `absx` (R193). -/
def execRorAbsx (w : Addr) (s : State) : Result := shiftMem rorCore (.absx w) s

end Sys2Proof.Machine
end

