-- ==== Sys2Proof/Machine/Stack.lean ====
section
/-! DEFINITION. Stack push and pull (spec 46_stack.md R221 to R224), and the RTI form of 60_exceptions.md R268. -/

namespace Sys2Proof.Machine

/-- R224's last line: with `PLP_B_HALTS`, a PLP that leaves B set ends the run. The default is off (D14: log 3). -/
def State.haltIfB (s : State) : State :=
  if s.cfg.plpBHalts && s.flags.b then s.halt else s

/-- The RTI form R268 gives for `RTI_IMPLEMENTED = true`: the status, then PC low, then PC high, with no `+1`. It is
no row of the opcode table; the engine runs it for 0x40 when the switch is on (log 4). UNVERIFIED (G17, D6). -/
def execRti (s : State) : Result :=
  let s1 := s.pulled.setFlags (Flags.unpack s.pullByte)
  let lo := s1.pullByte
  let s2 := s1.pulled
  let hi := s2.pullByte
  .next (s2.pulled.setPC (hiLo hi lo))

/-- PHA (R221). -/
def execPha (s : State) : Result := .next ((s.push s.a).advance Mode.imp.length)

/-- PHP (R222): the pushed byte is `Pack()`. -/
def execPhp (s : State) : Result := .next ((s.push s.flags.pack).advance Mode.imp.length)

/-- PLA (R223): a register load, so N and Z are set. -/
def execPla (s : State) : Result :=
  let v := s.pullByte
  .next (((s.pulled.setA v).setNZ v).advance Mode.imp.length)

/-- PLP (R224): all seven flags; with `PLP_B_HALTS` the run ends once PLP completes. -/
def execPlp (s : State) : Result :=
  .next ((s.pulled.setFlags (Flags.unpack s.pullByte)).advance Mode.imp.length).haltIfB

end Sys2Proof.Machine
end

