-- ==== Sys2Proof/Machine/Transfer.lean ====
section
/-! DEFINITION. Register transfers (spec 45_transfer.md R210 to R215). The mnemonics are PRESUMED (G13, D4: log 18). -/

namespace Sys2Proof.Machine

/-- The end of every transfer but TXS: `SetNZ` of the value moved, `PC <- PC + 1`. -/
def transferred (v : Byte) (s : State) : Result := .next ((s.setNZ v).advance Mode.imp.length)

/-- TAX (R210). -/
def execTax (s : State) : Result := transferred s.a (s.setX s.a)

/-- TAY (R211). -/
def execTay (s : State) : Result := transferred s.a (s.setY s.a)

/-- TXA (R212). -/
def execTxa (s : State) : Result := transferred s.x (s.setA s.x)

/-- TYA (R213). -/
def execTya (s : State) : Result := transferred s.y (s.setA s.y)

/-- TSX (R214): sets N and Z. -/
def execTsx (s : State) : Result := transferred s.sp (s.setX s.sp)

/-- TXS (R215): "register→stack-pointer transfer does not affect flags". -/
def execTxs (s : State) : Result := .next ((s.setSP s.x).advance Mode.imp.length)

end Sys2Proof.Machine
end

