-- ==== Sys2Proof/Machine/Dispatch.lean ====
section
/-! DEFINITION. `exec`: one arm for each row of spec/opcode_table.json, each one direct call of its meaning. -/

namespace Sys2Proof.Machine

def exec (i : Instr) (s : State) : Host.Outcome State Fault Refusal :=
  match i with
  -- LoadStore
  | .ldaImm b1 => Sys2Proof.Machine.execLdaImm b1 s
  | .ldaZp b1 => Sys2Proof.Machine.execLdaZp b1 s
  | .ldaZpx b1 => Sys2Proof.Machine.execLdaZpx b1 s
  | .ldaAbs w => Sys2Proof.Machine.execLdaAbs w s
  | .ldaAbsx w => Sys2Proof.Machine.execLdaAbsx w s
  | .ldaAbsy w => Sys2Proof.Machine.execLdaAbsy w s
  | .ldaIndx b1 => Sys2Proof.Machine.execLdaIndx b1 s
  | .ldaIndy b1 => Sys2Proof.Machine.execLdaIndy b1 s
  | .ldxImm b1 => Sys2Proof.Machine.execLdxImm b1 s
  | .ldxZp b1 => Sys2Proof.Machine.execLdxZp b1 s
  | .ldxZpy b1 => Sys2Proof.Machine.execLdxZpy b1 s
  | .ldxAbs w => Sys2Proof.Machine.execLdxAbs w s
  | .ldxAbsy w => Sys2Proof.Machine.execLdxAbsy w s
  | .ldyImm b1 => Sys2Proof.Machine.execLdyImm b1 s
  | .ldyZp b1 => Sys2Proof.Machine.execLdyZp b1 s
  | .ldyZpx b1 => Sys2Proof.Machine.execLdyZpx b1 s
  | .ldyAbs w => Sys2Proof.Machine.execLdyAbs w s
  | .ldyAbsx w => Sys2Proof.Machine.execLdyAbsx w s
  | .staZp b1 => Sys2Proof.Machine.execStaZp b1 s
  | .staZpx b1 => Sys2Proof.Machine.execStaZpx b1 s
  | .staAbs w => Sys2Proof.Machine.execStaAbs w s
  | .staAbsx w => Sys2Proof.Machine.execStaAbsx w s
  | .staAbsy w => Sys2Proof.Machine.execStaAbsy w s
  | .staIndx b1 => Sys2Proof.Machine.execStaIndx b1 s
  | .staIndy b1 => Sys2Proof.Machine.execStaIndy b1 s
  | .stxZp b1 => Sys2Proof.Machine.execStxZp b1 s
  | .stxZpy b1 => Sys2Proof.Machine.execStxZpy b1 s
  | .stxAbs w => Sys2Proof.Machine.execStxAbs w s
  | .styZp b1 => Sys2Proof.Machine.execStyZp b1 s
  | .styZpx b1 => Sys2Proof.Machine.execStyZpx b1 s
  | .styAbs w => Sys2Proof.Machine.execStyAbs w s
  -- AddSub
  | .adcImm b1 => Sys2Proof.Machine.execAdcImm b1 s
  | .adcZp b1 => Sys2Proof.Machine.execAdcZp b1 s
  | .adcZpx b1 => Sys2Proof.Machine.execAdcZpx b1 s
  | .adcAbs w => Sys2Proof.Machine.execAdcAbs w s
  | .adcAbsx w => Sys2Proof.Machine.execAdcAbsx w s
  | .adcAbsy w => Sys2Proof.Machine.execAdcAbsy w s
  | .adcIndx b1 => Sys2Proof.Machine.execAdcIndx b1 s
  | .adcIndy b1 => Sys2Proof.Machine.execAdcIndy b1 s
  | .sbcImm b1 => Sys2Proof.Machine.execSbcImm b1 s
  | .sbcZp b1 => Sys2Proof.Machine.execSbcZp b1 s
  | .sbcZpx b1 => Sys2Proof.Machine.execSbcZpx b1 s
  | .sbcAbs w => Sys2Proof.Machine.execSbcAbs w s
  | .sbcAbsx w => Sys2Proof.Machine.execSbcAbsx w s
  | .sbcAbsy w => Sys2Proof.Machine.execSbcAbsy w s
  | .sbcIndx b1 => Sys2Proof.Machine.execSbcIndx b1 s
  | .sbcIndy b1 => Sys2Proof.Machine.execSbcIndy b1 s
  | .cmpImm b1 => Sys2Proof.Machine.execCmpImm b1 s
  | .cmpZp b1 => Sys2Proof.Machine.execCmpZp b1 s
  | .cmpZpx b1 => Sys2Proof.Machine.execCmpZpx b1 s
  | .cmpAbs w => Sys2Proof.Machine.execCmpAbs w s
  | .cmpAbsx w => Sys2Proof.Machine.execCmpAbsx w s
  | .cmpAbsy w => Sys2Proof.Machine.execCmpAbsy w s
  | .cmpIndx b1 => Sys2Proof.Machine.execCmpIndx b1 s
  | .cmpIndy b1 => Sys2Proof.Machine.execCmpIndy b1 s
  | .cpxImm b1 => Sys2Proof.Machine.execCpxImm b1 s
  | .cpxZp b1 => Sys2Proof.Machine.execCpxZp b1 s
  | .cpxAbs w => Sys2Proof.Machine.execCpxAbs w s
  | .cpyImm b1 => Sys2Proof.Machine.execCpyImm b1 s
  | .cpyZp b1 => Sys2Proof.Machine.execCpyZp b1 s
  | .cpyAbs w => Sys2Proof.Machine.execCpyAbs w s
  -- Logic
  | .andImm b1 => Sys2Proof.Machine.execAndImm b1 s
  | .andZp b1 => Sys2Proof.Machine.execAndZp b1 s
  | .andZpx b1 => Sys2Proof.Machine.execAndZpx b1 s
  | .andAbs w => Sys2Proof.Machine.execAndAbs w s
  | .andAbsx w => Sys2Proof.Machine.execAndAbsx w s
  | .andAbsy w => Sys2Proof.Machine.execAndAbsy w s
  | .andIndx b1 => Sys2Proof.Machine.execAndIndx b1 s
  | .andIndy b1 => Sys2Proof.Machine.execAndIndy b1 s
  | .oraImm b1 => Sys2Proof.Machine.execOraImm b1 s
  | .oraZp b1 => Sys2Proof.Machine.execOraZp b1 s
  | .oraZpx b1 => Sys2Proof.Machine.execOraZpx b1 s
  | .oraAbs w => Sys2Proof.Machine.execOraAbs w s
  | .oraAbsx w => Sys2Proof.Machine.execOraAbsx w s
  | .oraAbsy w => Sys2Proof.Machine.execOraAbsy w s
  | .oraIndx b1 => Sys2Proof.Machine.execOraIndx b1 s
  | .oraIndy b1 => Sys2Proof.Machine.execOraIndy b1 s
  | .eorImm b1 => Sys2Proof.Machine.execEorImm b1 s
  | .eorZp b1 => Sys2Proof.Machine.execEorZp b1 s
  | .eorZpx b1 => Sys2Proof.Machine.execEorZpx b1 s
  | .eorAbs w => Sys2Proof.Machine.execEorAbs w s
  | .eorAbsx w => Sys2Proof.Machine.execEorAbsx w s
  | .eorAbsy w => Sys2Proof.Machine.execEorAbsy w s
  | .eorIndx b1 => Sys2Proof.Machine.execEorIndx b1 s
  | .eorIndy b1 => Sys2Proof.Machine.execEorIndy b1 s
  | .bitZp b1 => Sys2Proof.Machine.execBitZp b1 s
  | .bitAbs w => Sys2Proof.Machine.execBitAbs w s
  -- Shift
  | .aslAcc => Sys2Proof.Machine.execAslAcc s
  | .aslZp b1 => Sys2Proof.Machine.execAslZp b1 s
  | .aslZpx b1 => Sys2Proof.Machine.execAslZpx b1 s
  | .aslAbs w => Sys2Proof.Machine.execAslAbs w s
  | .aslAbsx w => Sys2Proof.Machine.execAslAbsx w s
  | .lsrAcc => Sys2Proof.Machine.execLsrAcc s
  | .lsrZp b1 => Sys2Proof.Machine.execLsrZp b1 s
  | .lsrZpx b1 => Sys2Proof.Machine.execLsrZpx b1 s
  | .lsrAbs w => Sys2Proof.Machine.execLsrAbs w s
  | .lsrAbsx w => Sys2Proof.Machine.execLsrAbsx w s
  | .rolAcc => Sys2Proof.Machine.execRolAcc s
  | .rolZp b1 => Sys2Proof.Machine.execRolZp b1 s
  | .rolZpx b1 => Sys2Proof.Machine.execRolZpx b1 s
  | .rolAbs w => Sys2Proof.Machine.execRolAbs w s
  | .rolAbsx w => Sys2Proof.Machine.execRolAbsx w s
  | .rorAcc => Sys2Proof.Machine.execRorAcc s
  | .rorZp b1 => Sys2Proof.Machine.execRorZp b1 s
  | .rorZpx b1 => Sys2Proof.Machine.execRorZpx b1 s
  | .rorAbs w => Sys2Proof.Machine.execRorAbs w s
  | .rorAbsx w => Sys2Proof.Machine.execRorAbsx w s
  -- IncDec
  | .incZp b1 => Sys2Proof.Machine.execIncZp b1 s
  | .incZpx b1 => Sys2Proof.Machine.execIncZpx b1 s
  | .incAbs w => Sys2Proof.Machine.execIncAbs w s
  | .incAbsx w => Sys2Proof.Machine.execIncAbsx w s
  | .decZp b1 => Sys2Proof.Machine.execDecZp b1 s
  | .decZpx b1 => Sys2Proof.Machine.execDecZpx b1 s
  | .decAbs w => Sys2Proof.Machine.execDecAbs w s
  | .decAbsx w => Sys2Proof.Machine.execDecAbsx w s
  | .inx => Sys2Proof.Machine.execInx s
  | .iny => Sys2Proof.Machine.execIny s
  | .dex => Sys2Proof.Machine.execDex s
  | .dey => Sys2Proof.Machine.execDey s
  -- Transfer
  | .tax => Sys2Proof.Machine.execTax s
  | .tay => Sys2Proof.Machine.execTay s
  | .txa => Sys2Proof.Machine.execTxa s
  | .tya => Sys2Proof.Machine.execTya s
  | .tsx => Sys2Proof.Machine.execTsx s
  | .txs => Sys2Proof.Machine.execTxs s
  -- Stack
  | .pha => Sys2Proof.Machine.execPha s
  | .php => Sys2Proof.Machine.execPhp s
  | .pla => Sys2Proof.Machine.execPla s
  | .plp => Sys2Proof.Machine.execPlp s
  -- Branch
  | .bpl off => Sys2Proof.Machine.execBpl off s
  | .bmi off => Sys2Proof.Machine.execBmi off s
  | .bvc off => Sys2Proof.Machine.execBvc off s
  | .bvs off => Sys2Proof.Machine.execBvs off s
  | .bcc off => Sys2Proof.Machine.execBcc off s
  | .bcs off => Sys2Proof.Machine.execBcs off s
  | .bne off => Sys2Proof.Machine.execBne off s
  | .beq off => Sys2Proof.Machine.execBeq off s
  -- JumpCallHalt
  | .jmpAbs w => Sys2Proof.Machine.execJmpAbs w s
  | .jmpInd w => Sys2Proof.Machine.execJmpInd w s
  | .jsr w => Sys2Proof.Machine.execJsr w s
  | .rts => Sys2Proof.Machine.execRts s
  | .brk => Sys2Proof.Machine.execBrk s
  -- FlagNop
  | .clc => Sys2Proof.Machine.execClc s
  | .sec => Sys2Proof.Machine.execSec s
  | .cli => Sys2Proof.Machine.execCli s
  | .sei => Sys2Proof.Machine.execSei s
  | .clv => Sys2Proof.Machine.execClv s
  | .cld => Sys2Proof.Machine.execCld s
  | .sed => Sys2Proof.Machine.execSed s
  | .nop => Sys2Proof.Machine.execNop s

end Sys2Proof.Machine
end

