-- ==== Sys2Proof/Machine/Engine.lean ====
section
/-! DEFINITION. The single-step engine (spec 60_exceptions.md R260): the host's write, the random-cell refresh,
fetch, decode, execute, and the unknown-instruction fault. `Step.lean` only calls it. -/

namespace Sys2Proof.Machine

/-- What the display collaborator did since the last step: its last write to `KEY_ADDR`, if it wrote (R63, R67). -/
def hostWriteKey (k : Option Byte) (s : State) : State := { s with keyCell := k.getD s.keyCell }

/-- The refresh of R62: `MemWrite(RAND_ADDR, 1, r)`. -/
def refreshRandom (r : Byte) (s : State) : State := { s with randCell := r }

/-- Count the step, so that the next one takes new free values (log 5). -/
def countStep (s : State) : State := { s with ticks := s.ticks + 1 }

/-- The state the opcode is fetched from: after the collaborator's write and the refresh with the draw `r` (R67,
R74). -/
def beginCycle (r : Byte) (k : Option Byte) (s : State) : State :=
  countStep (refreshRandom r (hostWriteKey k s))

/-- The instruction's bytes (R58): the opcode at PC, then as many operand bytes as its length asks, the addresses
modulo 65 536. For an unknown opcode no operand byte is read (R261). -/
def fetchBytes (s : State) : List Byte :=
  let op := s.readByte s.pc
  match opcodeLength op with
  | some 3 => [op, s.readByte (s.pc + 1#16), s.readByte (s.pc + 2#16)]
  | some 2 => [op, s.readByte (s.pc + 1#16)]
  | _ => [op]

/-- Fetch, decode and execute (R260). Opcode 0x40 runs the form of R268 when `RTI_IMPLEMENTED` is on (log 4). -/
def runFetched (s : State) : Result :=
  if s.cfg.rtiImplemented && s.readByte s.pc == 0x40#8 then execRti s
  else
    match decode (fetchBytes s) with
    | .ok (i, _) => exec i s
    | .error _ => raiseUnknown (s.readByte s.pc) s

/-- One step with the draw `r` and the collaborator's write `k` given (R260). It is enabled only while RS is
`Running`; from the two terminal states no step exists (R39), which is a named stop (log 9). -/
def cycle (r : Byte) (k : Option Byte) (s : State) : Result :=
  match s.rs with
  | .running => runFetched (beginCycle r k s)
  | .halted => .fault .halted
  | .faulted op => .fault (.unknownInstruction op)

/-- The bytes of an opcode-table word stored where the next step fetches, and a state that fetches (log 11). -/
def placeInstruction (s : State) (nbits w : Nat) : State :=
  let bytes := tableBytes nbits w
  (((s.writeByte s.pc (bytes.getD 0 0)).writeByte (s.pc + 1#16) (bytes.getD 1 0)).writeByte (s.pc + 2#16)
    (bytes.getD 2 0)).setRS .running

end Sys2Proof.Machine
end

