-- ==== Sys2Proof/Machine/Step.lean ====
section
/-! DEFINITION. The step of the machine: the engine's cycle on the free values the step counter picks. -/

namespace Sys2Proof.Machine

/-- One step (spec 60_exceptions.md R260), with this step's random draw (log 5) and the collaborator's write before
it (log 6) as free values. -/
def step (s : State) : Host.Outcome State Fault Refusal :=
  cycle (Config.randomDraw s.ticks) (Config.keyWrite s.ticks) s

/-- `s` with the opcode-table word `w` stored where `step` fetches its next instruction (log 11). -/
def State.withFetchWord (s : State) (nbits w : Nat) : State := placeInstruction s nbits w

end Sys2Proof.Machine
end

