-- ==== Sys2Proof/Machine/Boot.lean ====
section
/-! DEFINITION. The start of a run (spec 20_memory.md R70, 70_reset_and_hazards.md R280, R284): how a program comes
into the machine from outside (log 11). -/

namespace Sys2Proof.Machine

/-- Copy bytes to consecutive addresses. -/
def State.copyImage (s : State) (a : Addr) : List Byte → State
  | [] => s
  | b :: rest => (s.writeByte a b).copyImage (a + 1#16) rest

/-- `M[LOAD_ADDR + i] <- P[i]` (R70); an image that does not fit is refused before the run (D18). -/
def State.loadProgram (s : State) (image : List Byte) : Result :=
  if s.cfg.imageFits image then .next (s.copyImage s.cfg.loadAddr image)
  else .refused .imageDoesNotFit

/-- R280 for a setting of the parameters: the zeroed image, the program copied in, the start values, `Running`. -/
def boot (c : Config) (image : List Byte) : Result := (State.resetWith c).loadProgram image

end Sys2Proof.Machine
end

