-- ==== Sys2Proof/Machine/Assembler.lean ====
section
/-! DEFINITION. The assembler's source syntax (spec 30_encoding.md R110 to R128): text in, the byte buffer out that R70
loads. It is the toolchain, "not part of the hardware" (00_scope.md R5); no step calls it. What the rules leave open of
it is in log 24. -/

namespace Sys2Proof.Machine

/-- Source text, one character a place. -/
abbrev Text := List Char

/-! ### Errors -/

/-- The error kinds of R127. -/
inductive AsmErrorKind where
  /-- Raised for an unknown mnemonic, which it names (R111), and with no name by `asmLine`, `asmStatement`,
  `emitOperand` and `parseValue` for unmatched syntax or an operand an instruction rejects (R113, R118). Safe. -/
  | syntaxError (unknownMnemonic : Option Text)
  /-- Raised by `resolveReference` for a label that no line defines. Safe. -/
  | labelNotFound
  /-- Raised by `resolveReference` for an offset outside [-128, 127]. Safe. -/
  | labelTooFar
  /-- Raised by `emitMode` and `emitByte` for a mode the mnemonic does not have; it names the mnemonic (R115). Safe. -/
  | unsupportedMode (m : Mnemonic)
  /-- Raised by `parseValue` for a character that is no digit. Safe. -/
  | invalidNumber
  /-- Raised by `parseValue` for a literal beyond 16 bits, and for an address beyond them (R126). Safe. -/
  | numberTooLarge
deriving DecidableEq, Repr

/-- An error, tied to its line; lines are numbered from 1 (R110). -/
structure AsmError where
  line : Nat
  kind : AsmErrorKind
deriving DecidableEq, Repr

/-! ### Characters and words (R110, R111) -/

/-- White space within a line. -/
def isBlank (c : Char) : Bool := c == ' ' || c == '\t' || c == '\r'

/-- "leading alphabetic or underscore" (R110). -/
def isIdentStart (c : Char) : Bool := c.isAlpha || c == '_'

/-- "body alphanumeric/underscore" (R110). -/
def isIdentBody (c : Char) : Bool := c.isAlphanum || c == '_'

/-- An identifier (R110). -/
def isIdent : Text → Bool
  | [] => false
  | c :: t => isIdentStart c && t.all isIdentBody

/-- White space trimmed at both ends (R110). -/
def trimText (t : Text) : Text := ((t.dropWhile isBlank).reverse.dropWhile isBlank).reverse

/-- Case folding (R111). -/
def foldCase (t : Text) : Text := t.map Char.toLower

/-- The text before and after the first character that satisfies `p`, which is dropped; none if there is none. -/
def splitFirst (p : Char → Bool) : Text → Option (Text × Text)
  | [] => none
  | c :: t => if p c then some ([], t) else (splitFirst p t).map fun q => (c :: q.1, q.2)

/-- The same at the last such character. -/
def splitLast (p : Char → Bool) (t : Text) : Option (Text × Text) :=
  (splitFirst p t.reverse).map fun q => (q.2.reverse, q.1.reverse)

/-- All the pieces between the characters that satisfy `p`. -/
def splitAll (p : Char → Bool) : Text → List Text
  | [] => [[]]
  | c :: t =>
    if p c then [] :: splitAll p t
    else
      match splitAll p t with
      | [] => [[c]]
      | w :: ws => (c :: w) :: ws

/-- The word before the first blank, and the rest trimmed. -/
def splitWord (t : Text) : Text × Text :=
  match splitFirst isBlank t with
  | none => (t, [])
  | some (w, rest) => (w, trimText rest)

/-- The mnemonics by their names (R111). -/
def mnemonicOfText : Text → Option Mnemonic
  | ['l', 'd', 'a'] => some .lda
  | ['l', 'd', 'x'] => some .ldx
  | ['l', 'd', 'y'] => some .ldy
  | ['s', 't', 'a'] => some .sta
  | ['s', 't', 'x'] => some .stx
  | ['s', 't', 'y'] => some .sty
  | ['a', 'd', 'c'] => some .adc
  | ['s', 'b', 'c'] => some .sbc
  | ['c', 'm', 'p'] => some .cmp
  | ['c', 'p', 'x'] => some .cpx
  | ['c', 'p', 'y'] => some .cpy
  | ['a', 'n', 'd'] => some .and
  | ['o', 'r', 'a'] => some .ora
  | ['e', 'o', 'r'] => some .eor
  | ['b', 'i', 't'] => some .bit
  | ['a', 's', 'l'] => some .asl
  | ['l', 's', 'r'] => some .lsr
  | ['r', 'o', 'l'] => some .rol
  | ['r', 'o', 'r'] => some .ror
  | ['i', 'n', 'c'] => some .inc
  | ['d', 'e', 'c'] => some .dec
  | ['i', 'n', 'x'] => some .inx
  | ['i', 'n', 'y'] => some .iny
  | ['d', 'e', 'x'] => some .dex
  | ['d', 'e', 'y'] => some .dey
  | ['t', 'a', 'x'] => some .tax
  | ['t', 'a', 'y'] => some .tay
  | ['t', 'x', 'a'] => some .txa
  | ['t', 'y', 'a'] => some .tya
  | ['t', 's', 'x'] => some .tsx
  | ['t', 'x', 's'] => some .txs
  | ['p', 'h', 'a'] => some .pha
  | ['p', 'h', 'p'] => some .php
  | ['p', 'l', 'a'] => some .pla
  | ['p', 'l', 'p'] => some .plp
  | ['b', 'p', 'l'] => some .bpl
  | ['b', 'm', 'i'] => some .bmi
  | ['b', 'v', 'c'] => some .bvc
  | ['b', 'v', 's'] => some .bvs
  | ['b', 'c', 'c'] => some .bcc
  | ['b', 'c', 's'] => some .bcs
  | ['b', 'n', 'e'] => some .bne
  | ['b', 'e', 'q'] => some .beq
  | ['j', 'm', 'p'] => some .jmp
  | ['j', 's', 'r'] => some .jsr
  | ['r', 't', 's'] => some .rts
  | ['b', 'r', 'k'] => some .brk
  | ['c', 'l', 'c'] => some .clc
  | ['s', 'e', 'c'] => some .sec
  | ['c', 'l', 'i'] => some .cli
  | ['s', 'e', 'i'] => some .sei
  | ['c', 'l', 'v'] => some .clv
  | ['c', 'l', 'd'] => some .cld
  | ['s', 'e', 'd'] => some .sed
  | ['n', 'o', 'p'] => some .nop
  | _ => none

/-! ### Values (R114, R116) -/

/-- What an operand's value is: a number of 1 or 2 bytes, or a label. -/
inductive AsmValue where
  | byte (v : Byte)
  | word (w : Addr)
  | label (name : Text)
deriving DecidableEq, Repr

/-- A digit's value in a base up to 16, in either case (D27). -/
def digitValue (base : Nat) (c : Char) : Option Nat :=
  let n := c.toLower.toNat
  let d := if '0'.toNat ≤ n ∧ n ≤ '9'.toNat then n - '0'.toNat
    else if 'a'.toNat ≤ n ∧ n ≤ 'f'.toNat then n - 'a'.toNat + 10 else base
  if d < base then some d else none

/-- The number a list of digits writes; none if a character is no digit. -/
def digitsValue (base : Nat) (acc : Nat) : Text → Option Nat
  | [] => some acc
  | c :: t =>
    match digitValue base c with
    | some d => digitsValue base (acc * base + d) t
    | none => none

/-- A literal or a label (R114, R116): the width of a hexadecimal literal follows its digit count. The model's choices
(log 24): an empty text is a syntax error, and text that is neither a literal nor an identifier an invalid number, also
where it starts as an identifier (`foo-1`, `foo bar`). -/
def parseValue (t : Text) : Except AsmErrorKind AsmValue :=
  match t with
  | [] => .error (.syntaxError none)
  | '$' :: digits =>
    match digitsValue 16 0 digits with
    | none => .error .invalidNumber
    | some n =>
      if digits.length = 0 then .error .invalidNumber
      else if digits.length ≤ 2 then .ok (.byte (BitVec.ofNat 8 n))
      else if digits.length ≤ 4 then .ok (.word (BitVec.ofNat 16 n))
      else .error .numberTooLarge
  | _ =>
    if isIdent t then .ok (.label t)
    else
      match digitsValue 10 0 t with
      | none => .error .invalidNumber
      | some n =>
        if n ≤ 0xFF then .ok (.byte (BitVec.ofNat 8 n))
        else if n ≤ 0xFFFF then .ok (.word (BitVec.ofNat 16 n))
        else .error .numberTooLarge

/-! ### Operand classification (R113) -/

/-- The forms operand text is classified into, each with the text of its value. -/
inductive OperandText where
  | none
  | acc
  | imm (v : Text)
  | bare (v : Text)
  | bareX (v : Text)
  | bareY (v : Text)
  | indx (v : Text)
  | indy (v : Text)
  /-- JMP's `(value)` (R122). -/
  | ind (v : Text)
deriving DecidableEq, Repr

/-- The text inside parentheses. -/
def insideParens (t : Text) : Option Text :=
  match t with
  | '(' :: rest =>
    match rest.reverse with
    | ')' :: inner => some (trimText inner.reverse)
    | _ => none
  | _ => none

/-- R113; none is a syntax error. Index suffixes are accepted in either case. -/
def classify (t : Text) : Option OperandText :=
  match t with
  | [] => some .none
  | '#' :: v => some (.imm (trimText v))
  | '(' :: _ =>
    match insideParens t with
    | some inner =>
      match splitLast (· == ',') inner with
      | none => some (.ind inner)
      | some (v, idx) => if foldCase (trimText idx) = ['x'] then some (.indx (trimText v)) else none
    | none =>
      match splitLast (· == ',') t with
      | none => none
      | some (p, idx) =>
        if foldCase (trimText idx) = ['y'] then (insideParens (trimText p)).map .indy else none
  | _ =>
    if foldCase t = ['a'] then some .acc
    else
      match splitLast (· == ',') t with
      | none => some (.bare t)
      | some (v, idx) =>
        if foldCase (trimText idx) = ['x'] then some (.bareX (trimText v))
        else if foldCase (trimText idx) = ['y'] then some (.bareY (trimText v))
        else none

/-! ### Emission (R115 to R123) -/

/-- A pending reference (R116): "buffer position, mode ∈ {relative-1-byte, absolute-2-byte}, source line number, label
name". -/
structure PendingRef where
  position : Nat
  relative : Bool
  line : Nat
  label : Text
deriving DecidableEq, Repr

/-- What one statement emits: its bytes, and the references in it, each by its place among the bytes. -/
structure Emission where
  bytes : List Byte
  refs : List (Nat × Bool × Text)
deriving DecidableEq, Repr

/-- The bytes of a pair with its operand bytes (R115, R117): the opcode of R100's table, then the operand. -/
def formBytes (m : Mnemonic) (md : Mode) (operand : List Byte) : Option (List Byte) :=
  (opcodeOfPair m md).map fun op => op :: operand

/-- Emit a form, or report the mode unsupported (R115). -/
def emitMode (m : Mnemonic) (md : Mode) (operand : List Byte) (refs : List (Nat × Bool × Text)) :
    Except AsmErrorKind Emission :=
  match formBytes m md operand with
  | some bytes => .ok ⟨bytes, refs⟩
  | none => .error (.unsupportedMode m)

/-- A 16-bit operand, little-endian (R83, R117). -/
def wordBytes (w : Addr) : List Byte := [loByte w, hiByte w]

/-- A value in a form that has a 1-byte and a 2-byte mode (R115); a label takes the 2-byte one (R116). -/
def emitValue (m : Mnemonic) (short long : Mode) (v : Text) : Except AsmErrorKind Emission :=
  match parseValue v with
  | .error e => .error e
  | .ok (.byte b) => emitMode m short [b] []
  | .ok (.word w) => emitMode m long (wordBytes w) []
  | .ok (.label n) => emitMode m long [0x00#8, 0x00#8] [(1, false, n)]

/-- A value that must be 1 byte (R115, R116). -/
def emitByte (m : Mnemonic) (md : Mode) (v : Text) : Except AsmErrorKind Emission :=
  match parseValue v with
  | .error e => .error e
  | .ok (.byte b) => emitMode m md [b] []
  | .ok _ => .error (.unsupportedMode m)

/-- A value that is always a 2-byte address: JMP's operands (R122). -/
def emitAddress (m : Mnemonic) (md : Mode) (v : Text) : Except AsmErrorKind Emission :=
  match parseValue v with
  | .error e => .error e
  | .ok (.byte b) => emitMode m md (wordBytes (zext16 b)) []
  | .ok (.word w) => emitMode m md (wordBytes w) []
  | .ok (.label n) => emitMode m md [0x00#8, 0x00#8] [(1, false, n)]

/-- An instruction's operand text, already substituted (R113 to R122). -/
def emitOperand (m : Mnemonic) (t : Text) : Except AsmErrorKind Emission :=
  if admittedModes m = [.imp] then
    if t = [] then emitMode m .imp [] [] else .error (.syntaxError none)
  else if admittedModes m = [.rel] then
    if isIdent t then emitMode m .rel [0x00#8] [(1, true, t)] else .error (.syntaxError none)
  else if m = .jsr then
    if isIdent t then emitMode m .abs [0x00#8, 0x00#8] [(1, false, t)] else .error (.syntaxError none)
  else
    match classify t with
    | none | some .none => .error (.syntaxError none)
    | some .acc => emitMode m .acc [] []
    | some (.imm v) => emitByte m .imm v
    | some (.bare v) => if m = .jmp then emitAddress m .abs v else emitValue m .zp .abs v
    | some (.bareX v) => emitValue m .zpx .absx v
    | some (.bareY v) => emitValue m .zpy .absy v
    | some (.indx v) => emitByte m .indx v
    | some (.indy v) => emitByte m .indy v
    | some (.ind v) => if m = .jmp then emitAddress m .ind v else .error (.syntaxError none)

/-- The items of the literal table (R123), each after `n` bytes of it. -/
def emitItems (n : Nat) : List Text → Except AsmErrorKind Emission
  | [] => .ok ⟨[], []⟩
  | t :: rest =>
    let item : Except AsmErrorKind (List Byte × List (Nat × Bool × Text)) :=
      match parseValue (trimText t) with
      | .error e => .error e
      | .ok (.byte b) => .ok ([b], [])
      | .ok (.word w) => .ok (wordBytes w, [])
      | .ok (.label l) => .ok ([0x00#8, 0x00#8], [(n, false, l)])
    match item with
    | .error e => .error e
    | .ok (bytes, refs) =>
      match emitItems (n + bytes.length) rest with
      | .error e => .error e
      | .ok e => .ok ⟨bytes ++ e.bytes, refs ++ e.refs⟩

/-! ### The first pass (R110 to R124) -/

/-- What the first pass builds. Newer symbols and labels come first, so that the last write wins (R112). -/
structure AsmState where
  buffer : List Byte
  symbols : List (Text × Text)
  labels : List (Text × Nat)
  pending : List PendingRef
deriving DecidableEq, Repr

/-- The value of a name in a table, the newest entry first. Names are compared letter for letter: that the case of a
label or symbol counts is the model's choice (N24: log 24). -/
def findName {α : Type} (name : Text) : List (Text × α) → Option α
  | [] => none
  | (k, v) :: rest => if k = name then some v else findName name rest

/-- One substitution pass on the whole operand text (R112). -/
def substitute (st : AsmState) (t : Text) : Text := (findName t st.symbols).getD t

/-- The leading `label:` of a line, if it has one, and the rest (R110); none is a syntax error. -/
def takeLabel (t : Text) : Option (Option Text × Text) :=
  match splitFirst (fun c => !isIdentBody c) t with
  | none => some (none, t)
  | some (name, rest) =>
    if t.drop name.length = ':' :: rest then
      if isIdent name then some (some name, trimText rest) else none
    else some (none, t)

/-- Add an emission to the buffer, its references at their buffer positions (R116, R117). -/
def addEmission (st : AsmState) (line : Nat) (e : Emission) : AsmState :=
  { st with
    buffer := st.buffer ++ e.bytes
    pending := st.pending ++ e.refs.map fun r => ⟨st.buffer.length + r.1, r.2.1, line, r.2.2⟩ }

/-- A statement: an instruction or one of the two directives (R111, R123, R124, R128). An unknown mnemonic is named as
the line writes it. The model's choices (log 24): the name of an instruction or directive ends at the first blank, and a
directive's is case-folded too; a `define` takes any word without a blank as its name, and with no name it is a syntax
error; its value is all the rest of the line, blanks inside it included; its own operand is not substituted. -/
def asmStatement (st : AsmState) (line : Nat) (t : Text) : Except AsmErrorKind AsmState :=
  let (word, operand) := splitWord t
  let name := foldCase word
  if name = ['d', 'e', 'f', 'i', 'n', 'e'] then
    let (key, value) := splitWord operand
    if key = [] then .error (.syntaxError none)
    else .ok { st with symbols := (key, if value = [] then key else value) :: st.symbols }
  else
    let emission : Except AsmErrorKind Emission :=
      if name = ['d', 'c', 'b'] then emitItems 0 (splitAll (· == ',') (substitute st operand))
      else
        match mnemonicOfText name with
        | some m => emitOperand m (substitute st operand)
        | none => .error (.syntaxError (some word))
    match emission with
    | .error e => .error e
    | .ok e => .ok (addEmission st line e)

/-- One line (R110): comment, label, statement. -/
def asmLine (st : AsmState) (line : Nat) (t : Text) : Except AsmErrorKind AsmState :=
  match takeLabel (trimText (t.takeWhile (· != ';'))) with
  | none => .error (.syntaxError none)
  | some (lbl, rest) =>
    let st1 :=
      match lbl with
      | some n => { st with labels := (n, st.buffer.length) :: st.labels }
      | none => st
    if rest = [] then .ok st1 else asmStatement st1 line rest

/-- The lines in order, numbered from `n`; the first error wins (R127). -/
def asmLines (st : AsmState) (n : Nat) : List Text → Except AsmError AsmState
  | [] => .ok st
  | t :: rest =>
    match asmLine st n t with
    | .error k => .error ⟨n, k⟩
    | .ok st1 => asmLines st1 (n + 1) rest

/-! ### The second pass (R125 to R127) -/

/-- Write bytes over a buffer at a position. -/
def patchBytes (buffer : List Byte) (p : Nat) (bytes : List Byte) : List Byte :=
  buffer.take p ++ bytes ++ buffer.drop (p + bytes.length)

/-- Resolve one reference (R125, R126). -/
def resolveReference (c : Config) (labels : List (Text × Nat)) (buffer : List Byte) (r : PendingRef) :
    Except AsmError (List Byte) :=
  match findName r.label labels with
  | none => .error ⟨r.line, .labelNotFound⟩
  | some t =>
    if r.relative then
      match resolveRelative t r.position with
      | some off => .ok (patchBytes buffer r.position [off])
      | none => .error ⟨r.line, .labelTooFar⟩
    else
      match resolveAbsolute c t with
      | some bytes => .ok (patchBytes buffer r.position bytes)
      | none => .error ⟨r.line, .numberTooLarge⟩

/-- Every pending reference "in recorded order" (R125); any failure aborts the whole (R127). -/
def resolveReferences (c : Config) (labels : List (Text × Nat)) :
    List Byte → List PendingRef → Except AsmError (List Byte)
  | buffer, [] => .ok buffer
  | buffer, r :: rest =>
    match resolveReference c labels buffer r with
    | .error e => .error e
    | .ok b => resolveReferences c labels b rest

/-- The whole assembly: the completely resolved buffer, or the first error (R127). -/
def assemble (c : Config) (source : Text) : Except AsmError (List Byte) :=
  match asmLines ⟨[], [], [], []⟩ 1 (splitAll (· == '\n') source) with
  | .error e => .error e
  | .ok st => resolveReferences c st.labels st.buffer st.pending

/-- The core is started only with a completely resolved buffer (R127, R70). -/
def bootSource (c : Config) (source : Text) : Except AsmError Result :=
  match assemble c source with
  | .error e => .error e
  | .ok image => .ok (boot c image)

end Sys2Proof.Machine
end

