-- ==== Sys2Proof/Machine/Observe.lean ====
section
/-! DEFINITION. What the outside sees of a state (spec 10_state.md R39, R40; 20_memory.md R64; 60_exceptions.md R261,
R263, R276). Views only: no step reads them. -/

namespace Sys2Proof.Machine

/-- The shared "stopped" flag: raised by `Halted`, and only by it (R39, R273). -/
def State.stopped (s : State) : Bool := decide (s.rs = .halted)

/-- "the final register/flag snapshot" (R40). -/
structure Snapshot where
  a : Byte
  x : Byte
  y : Byte
  sp : Byte
  pc : Addr
  flags : Flags
deriving DecidableEq, Repr

/-- The snapshot of a halted run; a running or faulted one has none (R40, R263). -/
def State.snapshot (s : State) : Option Snapshot :=
  if s.stopped then some { a := s.a, x := s.x, y := s.y, sp := s.sp, pc := s.pc, flags := s.flags } else none

/-- A byte of the post-run dump: the memory image of a halted run (R40, R274, R276). -/
def State.dumpByte (s : State) (a : Addr) : Option Byte :=
  if s.stopped then some (s.readByte a) else none

/-- The report of a faulted run: the exit code, whose number is OPEN, and the opcode byte (R261; log 22). -/
structure ErrorReport where
  exitCode : Nat
  opcode : Byte
deriving DecidableEq, Repr

/-- The unknown-instruction error of a faulted run; nothing else of it is observable (R263). -/
def State.errorReport (s : State) : Option ErrorReport :=
  match s.rs with
  | .faulted op => some { exitCode := Config.exitUnknownInstr, opcode := op }
  | _ => none

/-- The address of cell `k` of the framebuffer, `FB_BASE + k` (R64). -/
def State.framebufferAddr (s : State) (k : Nat) : Addr := s.cfg.fbBase + BitVec.ofNat 16 k

/-- Cell `k` of the 1024 framebuffer cells, as the display collaborator reads it: the whole byte (R64, R66). A faulted
run shows no byte of memory (R263). -/
def State.framebufferByte (s : State) (k : Nat) : Option Byte :=
  match s.rs with
  | .faulted _ => none
  | .running | .halted => if k < 1024 then some (s.readByte (s.framebufferAddr k)) else none

/-- The 1024 bytes the display collaborator reads (R64, R66); none of a faulted run (R263). -/
def State.framebuffer (s : State) : Option (List Byte) := (List.range 1024).mapM s.framebufferByte

end Sys2Proof.Machine
end

