-- ==== Sys2Proof/Safety.lean ====
section
/-! DEFINITION. What counts as a well-formed state and as the end of a run, in the terms statements use. -/

namespace Sys2Proof.Machine

/-- A well-formed state: the memory list is canonical and lists neither device cell (log 7), and the parameters
meet R9. -/
abbrev State.wf (s : State) : Prop :=
  s.mem.wf ∧ (∀ p ∈ s.mem, p.1 ≠ s.cfg.randAddr.toNat ∧ p.1 ≠ s.cfg.keyAddr.toNat) ∧ s.cfg.wf = true

/-- A safe step: the machine goes on to a next state, and the unknown-instruction error is not raised (R261). -/
def SafeStep (s : State) : Prop := ∃ t, step s = .next t ∧ ∀ op, t.rs ≠ .faulted op

/-- "the program halts" of R276: some number of steps reaches a `Halted` state. -/
def Halts (s : State) : Prop := ∃ n t, Host.Core.run core n s = .next t ∧ t.rs = .halted

/-- A run that ends with the unknown-instruction error of `op` (R261, R276). -/
def FaultsWith (op : Byte) (s : State) : Prop := ∃ n t, Host.Core.run core n s = .next t ∧ t.rs = .faulted op

/-- The states some number of steps from `s` reaches. -/
inductive Reaches (s : State) : State → Prop where
  | here : Reaches s s
  | step {t u : State} : Reaches s t → Machine.step t = .next u → Reaches s u

end Sys2Proof.Machine
end

