-- ==== Sys2Proof/Certificates/Slice0/Obligations.lean ====
section
/-! DEFINITION. The statements for the provers, each a Prop about the model, with the rule of the spec it comes from.
`Sys2Proof.Spec` holds the lists and functions the statements are written with, transcribed from the spec. -/

namespace Sys2Proof.Spec

open Sys2Proof.Machine

/-- The forms of LDA (R140, R100): instruction, operand, length. -/
def ldaForms (b1 : Byte) (w : Addr) : List (Instr × DataOperand × Addr) :=
   [(.ldaImm b1, .imm b1, 2), (.ldaZp b1, .mem (.zp b1), 2), (.ldaZpx b1, .mem (.zpx b1), 2), (.ldaAbs w, .mem (.abs w), 3),
    (.ldaAbsx w, .mem (.absx w), 3), (.ldaAbsy w, .mem (.absy w), 3), (.ldaIndx b1, .mem (.indx b1), 2), (.ldaIndy b1, .mem (.indy b1), 2)]

/-- The forms of LDX (R141, R100): instruction, operand, length. -/
def ldxForms (b1 : Byte) (w : Addr) : List (Instr × DataOperand × Addr) :=
   [(.ldxImm b1, .imm b1, 2), (.ldxZp b1, .mem (.zp b1), 2), (.ldxZpy b1, .mem (.zpy b1), 2), (.ldxAbs w, .mem (.abs w), 3),
    (.ldxAbsy w, .mem (.absy w), 3)]

/-- The forms of LDY (R142, R100): instruction, operand, length. -/
def ldyForms (b1 : Byte) (w : Addr) : List (Instr × DataOperand × Addr) :=
   [(.ldyImm b1, .imm b1, 2), (.ldyZp b1, .mem (.zp b1), 2), (.ldyZpx b1, .mem (.zpx b1), 2), (.ldyAbs w, .mem (.abs w), 3),
    (.ldyAbsx w, .mem (.absx w), 3)]

/-- The forms of STA (R143, R100): instruction, operand, length. -/
def staForms (b1 : Byte) (w : Addr) : List (Instr × MemOperand × Addr) :=
   [(.staZp b1, .zp b1, 2), (.staZpx b1, .zpx b1, 2), (.staAbs w, .abs w, 3), (.staAbsx w, .absx w, 3),
    (.staAbsy w, .absy w, 3), (.staIndx b1, .indx b1, 2), (.staIndy b1, .indy b1, 2)]

/-- The forms of STX (R144, R100): instruction, operand, length. -/
def stxForms (b1 : Byte) (w : Addr) : List (Instr × MemOperand × Addr) :=
   [(.stxZp b1, .zp b1, 2), (.stxZpy b1, .zpy b1, 2), (.stxAbs w, .abs w, 3)]

/-- The forms of STY (R145, R100): instruction, operand, length. -/
def styForms (b1 : Byte) (w : Addr) : List (Instr × MemOperand × Addr) :=
   [(.styZp b1, .zp b1, 2), (.styZpx b1, .zpx b1, 2), (.styAbs w, .abs w, 3)]

/-- The forms of ADC (R162, R100): instruction, operand, length. -/
def adcForms (b1 : Byte) (w : Addr) : List (Instr × DataOperand × Addr) :=
   [(.adcImm b1, .imm b1, 2), (.adcZp b1, .mem (.zp b1), 2), (.adcZpx b1, .mem (.zpx b1), 2), (.adcAbs w, .mem (.abs w), 3),
    (.adcAbsx w, .mem (.absx w), 3), (.adcAbsy w, .mem (.absy w), 3), (.adcIndx b1, .mem (.indx b1), 2), (.adcIndy b1, .mem (.indy b1), 2)]

/-- The forms of SBC (R163, R100): instruction, operand, length. -/
def sbcForms (b1 : Byte) (w : Addr) : List (Instr × DataOperand × Addr) :=
   [(.sbcImm b1, .imm b1, 2), (.sbcZp b1, .mem (.zp b1), 2), (.sbcZpx b1, .mem (.zpx b1), 2), (.sbcAbs w, .mem (.abs w), 3),
    (.sbcAbsx w, .mem (.absx w), 3), (.sbcAbsy w, .mem (.absy w), 3), (.sbcIndx b1, .mem (.indx b1), 2), (.sbcIndy b1, .mem (.indy b1), 2)]

/-- The forms of CMP (R167, R100): instruction, operand, length. -/
def cmpForms (b1 : Byte) (w : Addr) : List (Instr × DataOperand × Addr) :=
   [(.cmpImm b1, .imm b1, 2), (.cmpZp b1, .mem (.zp b1), 2), (.cmpZpx b1, .mem (.zpx b1), 2), (.cmpAbs w, .mem (.abs w), 3),
    (.cmpAbsx w, .mem (.absx w), 3), (.cmpAbsy w, .mem (.absy w), 3), (.cmpIndx b1, .mem (.indx b1), 2), (.cmpIndy b1, .mem (.indy b1), 2)]

/-- The forms of CPX (R168, R100): instruction, operand, length. -/
def cpxForms (b1 : Byte) (w : Addr) : List (Instr × DataOperand × Addr) :=
   [(.cpxImm b1, .imm b1, 2), (.cpxZp b1, .mem (.zp b1), 2), (.cpxAbs w, .mem (.abs w), 3)]

/-- The forms of CPY (R169, R100): instruction, operand, length. -/
def cpyForms (b1 : Byte) (w : Addr) : List (Instr × DataOperand × Addr) :=
   [(.cpyImm b1, .imm b1, 2), (.cpyZp b1, .mem (.zp b1), 2), (.cpyAbs w, .mem (.abs w), 3)]

/-- The forms of AND (R180, R100): instruction, operand, length. -/
def andForms (b1 : Byte) (w : Addr) : List (Instr × DataOperand × Addr) :=
   [(.andImm b1, .imm b1, 2), (.andZp b1, .mem (.zp b1), 2), (.andZpx b1, .mem (.zpx b1), 2), (.andAbs w, .mem (.abs w), 3),
    (.andAbsx w, .mem (.absx w), 3), (.andAbsy w, .mem (.absy w), 3), (.andIndx b1, .mem (.indx b1), 2), (.andIndy b1, .mem (.indy b1), 2)]

/-- The forms of ORA (R181, R100): instruction, operand, length. -/
def oraForms (b1 : Byte) (w : Addr) : List (Instr × DataOperand × Addr) :=
   [(.oraImm b1, .imm b1, 2), (.oraZp b1, .mem (.zp b1), 2), (.oraZpx b1, .mem (.zpx b1), 2), (.oraAbs w, .mem (.abs w), 3),
    (.oraAbsx w, .mem (.absx w), 3), (.oraAbsy w, .mem (.absy w), 3), (.oraIndx b1, .mem (.indx b1), 2), (.oraIndy b1, .mem (.indy b1), 2)]

/-- The forms of EOR (R182, R100): instruction, operand, length. -/
def eorForms (b1 : Byte) (w : Addr) : List (Instr × DataOperand × Addr) :=
   [(.eorImm b1, .imm b1, 2), (.eorZp b1, .mem (.zp b1), 2), (.eorZpx b1, .mem (.zpx b1), 2), (.eorAbs w, .mem (.abs w), 3),
    (.eorAbsx w, .mem (.absx w), 3), (.eorAbsy w, .mem (.absy w), 3), (.eorIndx b1, .mem (.indx b1), 2), (.eorIndy b1, .mem (.indy b1), 2)]

/-- The forms of BIT (R183, R100): instruction, operand, length. -/
def bitForms (b1 : Byte) (w : Addr) : List (Instr × MemOperand × Addr) :=
   [(.bitZp b1, .zp b1, 2), (.bitAbs w, .abs w, 3)]

/-- The forms of ASL on memory (R190, R100): instruction, operand, length. -/
def aslForms (b1 : Byte) (w : Addr) : List (Instr × MemOperand × Addr) :=
   [(.aslZp b1, .zp b1, 2), (.aslZpx b1, .zpx b1, 2), (.aslAbs w, .abs w, 3), (.aslAbsx w, .absx w, 3)]

/-- The forms of LSR on memory (R191, R100): instruction, operand, length. -/
def lsrForms (b1 : Byte) (w : Addr) : List (Instr × MemOperand × Addr) :=
   [(.lsrZp b1, .zp b1, 2), (.lsrZpx b1, .zpx b1, 2), (.lsrAbs w, .abs w, 3), (.lsrAbsx w, .absx w, 3)]

/-- The forms of ROL on memory (R192, R100): instruction, operand, length. -/
def rolForms (b1 : Byte) (w : Addr) : List (Instr × MemOperand × Addr) :=
   [(.rolZp b1, .zp b1, 2), (.rolZpx b1, .zpx b1, 2), (.rolAbs w, .abs w, 3), (.rolAbsx w, .absx w, 3)]

/-- The forms of ROR on memory (R193, R100): instruction, operand, length. -/
def rorForms (b1 : Byte) (w : Addr) : List (Instr × MemOperand × Addr) :=
   [(.rorZp b1, .zp b1, 2), (.rorZpx b1, .zpx b1, 2), (.rorAbs w, .abs w, 3), (.rorAbsx w, .absx w, 3)]

/-- The forms of INC (R200, R100): instruction, operand, length. -/
def incForms (b1 : Byte) (w : Addr) : List (Instr × MemOperand × Addr) :=
   [(.incZp b1, .zp b1, 2), (.incZpx b1, .zpx b1, 2), (.incAbs w, .abs w, 3), (.incAbsx w, .absx w, 3)]

/-- The forms of DEC (R201, R100): instruction, operand, length. -/
def decForms (b1 : Byte) (w : Addr) : List (Instr × MemOperand × Addr) :=
   [(.decZp b1, .zp b1, 2), (.decZpx b1, .zpx b1, 2), (.decAbs w, .abs w, 3), (.decAbsx w, .absx w, 3)]

/-- Rows 1 to 25 of spec/opcode_table.json by opcode: byte, mnemonic, mode, length. -/
def opcodeRows0 : List (Byte × Mnemonic × Mode × Nat) :=
  [(0x00, .brk, .imp, 1), (0x01, .ora, .indx, 2), (0x05, .ora, .zp, 2), (0x06, .asl, .zp, 2), (0x08, .php, .imp, 1),
    (0x09, .ora, .imm, 2), (0x0A, .asl, .acc, 1), (0x0D, .ora, .abs, 3), (0x0E, .asl, .abs, 3), (0x10, .bpl, .rel, 2),
    (0x11, .ora, .indy, 2), (0x15, .ora, .zpx, 2), (0x16, .asl, .zpx, 2), (0x18, .clc, .imp, 1), (0x19, .ora, .absy, 3),
    (0x1D, .ora, .absx, 3), (0x1E, .asl, .absx, 3), (0x20, .jsr, .abs, 3), (0x21, .and, .indx, 2), (0x24, .bit, .zp, 2),
    (0x25, .and, .zp, 2), (0x26, .rol, .zp, 2), (0x28, .plp, .imp, 1), (0x29, .and, .imm, 2), (0x2A, .rol, .acc, 1)]

/-- Rows 26 to 50 of spec/opcode_table.json by opcode: byte, mnemonic, mode, length. -/
def opcodeRows1 : List (Byte × Mnemonic × Mode × Nat) :=
  [(0x2C, .bit, .abs, 3), (0x2D, .and, .abs, 3), (0x2E, .rol, .abs, 3), (0x30, .bmi, .rel, 2), (0x31, .and, .indy, 2),
    (0x35, .and, .zpx, 2), (0x36, .rol, .zpx, 2), (0x38, .sec, .imp, 1), (0x39, .and, .absy, 3), (0x3D, .and, .absx, 3),
    (0x3E, .rol, .absx, 3), (0x41, .eor, .indx, 2), (0x45, .eor, .zp, 2), (0x46, .lsr, .zp, 2), (0x48, .pha, .imp, 1),
    (0x49, .eor, .imm, 2), (0x4A, .lsr, .acc, 1), (0x4C, .jmp, .abs, 3), (0x4D, .eor, .abs, 3), (0x4E, .lsr, .abs, 3),
    (0x50, .bvc, .rel, 2), (0x51, .eor, .indy, 2), (0x55, .eor, .zpx, 2), (0x56, .lsr, .zpx, 2), (0x58, .cli, .imp, 1)]

/-- Rows 51 to 75 of spec/opcode_table.json by opcode: byte, mnemonic, mode, length. -/
def opcodeRows2 : List (Byte × Mnemonic × Mode × Nat) :=
  [(0x59, .eor, .absy, 3), (0x5D, .eor, .absx, 3), (0x5E, .lsr, .absx, 3), (0x60, .rts, .imp, 1), (0x61, .adc, .indx, 2),
    (0x65, .adc, .zp, 2), (0x66, .ror, .zp, 2), (0x68, .pla, .imp, 1), (0x69, .adc, .imm, 2), (0x6A, .ror, .acc, 1),
    (0x6C, .jmp, .ind, 3), (0x6D, .adc, .abs, 3), (0x6E, .ror, .abs, 3), (0x70, .bvs, .rel, 2), (0x71, .adc, .indy, 2),
    (0x75, .adc, .zpx, 2), (0x76, .ror, .zpx, 2), (0x78, .sei, .imp, 1), (0x79, .adc, .absy, 3), (0x7D, .adc, .absx, 3),
    (0x7E, .ror, .absx, 3), (0x81, .sta, .indx, 2), (0x84, .sty, .zp, 2), (0x85, .sta, .zp, 2), (0x86, .stx, .zp, 2)]

/-- Rows 76 to 100 of spec/opcode_table.json by opcode: byte, mnemonic, mode, length. -/
def opcodeRows3 : List (Byte × Mnemonic × Mode × Nat) :=
  [(0x88, .dey, .imp, 1), (0x8A, .txa, .imp, 1), (0x8C, .sty, .abs, 3), (0x8D, .sta, .abs, 3), (0x8E, .stx, .abs, 3),
    (0x90, .bcc, .rel, 2), (0x91, .sta, .indy, 2), (0x94, .sty, .zpx, 2), (0x95, .sta, .zpx, 2), (0x96, .stx, .zpy, 2),
    (0x98, .tya, .imp, 1), (0x99, .sta, .absy, 3), (0x9A, .txs, .imp, 1), (0x9D, .sta, .absx, 3), (0xA0, .ldy, .imm, 2),
    (0xA1, .lda, .indx, 2), (0xA2, .ldx, .imm, 2), (0xA4, .ldy, .zp, 2), (0xA5, .lda, .zp, 2), (0xA6, .ldx, .zp, 2),
    (0xA8, .tay, .imp, 1), (0xA9, .lda, .imm, 2), (0xAA, .tax, .imp, 1), (0xAC, .ldy, .abs, 3), (0xAD, .lda, .abs, 3)]

/-- Rows 101 to 125 of spec/opcode_table.json by opcode: byte, mnemonic, mode, length. -/
def opcodeRows4 : List (Byte × Mnemonic × Mode × Nat) :=
  [(0xAE, .ldx, .abs, 3), (0xB0, .bcs, .rel, 2), (0xB1, .lda, .indy, 2), (0xB4, .ldy, .zpx, 2), (0xB5, .lda, .zpx, 2),
    (0xB6, .ldx, .zpy, 2), (0xB8, .clv, .imp, 1), (0xB9, .lda, .absy, 3), (0xBA, .tsx, .imp, 1), (0xBC, .ldy, .absx, 3),
    (0xBD, .lda, .absx, 3), (0xBE, .ldx, .absy, 3), (0xC0, .cpy, .imm, 2), (0xC1, .cmp, .indx, 2), (0xC4, .cpy, .zp, 2),
    (0xC5, .cmp, .zp, 2), (0xC6, .dec, .zp, 2), (0xC8, .iny, .imp, 1), (0xC9, .cmp, .imm, 2), (0xCA, .dex, .imp, 1),
    (0xCC, .cpy, .abs, 3), (0xCD, .cmp, .abs, 3), (0xCE, .dec, .abs, 3), (0xD0, .bne, .rel, 2), (0xD1, .cmp, .indy, 2)]

/-- Rows 126 to 150 of spec/opcode_table.json by opcode: byte, mnemonic, mode, length. -/
def opcodeRows5 : List (Byte × Mnemonic × Mode × Nat) :=
  [(0xD5, .cmp, .zpx, 2), (0xD6, .dec, .zpx, 2), (0xD8, .cld, .imp, 1), (0xD9, .cmp, .absy, 3), (0xDD, .cmp, .absx, 3),
    (0xDE, .dec, .absx, 3), (0xE0, .cpx, .imm, 2), (0xE1, .sbc, .indx, 2), (0xE4, .cpx, .zp, 2), (0xE5, .sbc, .zp, 2),
    (0xE6, .inc, .zp, 2), (0xE8, .inx, .imp, 1), (0xE9, .sbc, .imm, 2), (0xEA, .nop, .imp, 1), (0xEC, .cpx, .abs, 3),
    (0xED, .sbc, .abs, 3), (0xEE, .inc, .abs, 3), (0xF0, .beq, .rel, 2), (0xF1, .sbc, .indy, 2), (0xF5, .sbc, .zpx, 2),
    (0xF6, .inc, .zpx, 2), (0xF8, .sed, .imp, 1), (0xF9, .sbc, .absy, 3), (0xFD, .sbc, .absx, 3), (0xFE, .inc, .absx, 3)]

/-- spec/opcode_table.json: opcode byte, mnemonic, mode, length (R82, R99, R100). -/
def opcodeTable : List (Byte × Mnemonic × Mode × Nat) :=
  opcodeRows0 ++ opcodeRows1 ++ opcodeRows2 ++ opcodeRows3 ++ opcodeRows4 ++ opcodeRows5

/-- The unknown opcodes of R96, as the rule lists them. -/
def unknownOpcodes : List Byte :=
  [0x02, 0x03, 0x04, 0x07, 0x0B, 0x0C, 0x0F, 0x12, 0x13, 0x14, 0x17, 0x1A, 0x1B, 0x1C, 0x1F] ++
  [0x22, 0x23, 0x27, 0x2B, 0x2F, 0x32, 0x33, 0x34, 0x37, 0x3A, 0x3B, 0x3C, 0x3F, 0x40, 0x42] ++
  [0x43, 0x44, 0x47, 0x4B, 0x4F, 0x52, 0x53, 0x54, 0x57, 0x5A, 0x5B, 0x5C, 0x5F, 0x62, 0x63] ++
  [0x64, 0x67, 0x6B, 0x6F, 0x72, 0x73, 0x74, 0x77, 0x7A, 0x7B, 0x7C, 0x7F, 0x80, 0x82, 0x83] ++
  [0x87, 0x89, 0x8B, 0x8F, 0x92, 0x93, 0x97, 0x9B, 0x9C, 0x9E, 0x9F, 0xA3, 0xA7, 0xAB, 0xAF] ++
  [0xB2, 0xB3, 0xB7, 0xBB, 0xBF, 0xC2, 0xC3, 0xC7, 0xCB, 0xCF, 0xD2, 0xD3, 0xD4, 0xD7, 0xDA] ++
  [0xDB, 0xDC, 0xDF, 0xE2, 0xE3, 0xE7, 0xEB, 0xEF, 0xF2, 0xF3, 0xF4, 0xF7, 0xFA, 0xFB, 0xFC, 0xFF]

/-- One word or more of each family, written from R83 and R99. -/
def sampleWords (b1 b2 : Byte) : List (List Byte × Instr) :=
   [([0xA9, b1], .ldaImm b1), ([0xB6, b1], .ldxZpy b1), ([0x91, b1], .staIndy b1), ([0x8C, b1, b2], .styAbs (b2 ++ b1)),
    ([0x7D, b1, b2], .adcAbsx (b2 ++ b1)), ([0xE9, b1], .sbcImm b1), ([0xC1, b1], .cmpIndx b1), ([0x2C, b1, b2], .bitAbs (b2 ++ b1)),
    ([0x59, b1, b2], .eorAbsy (b2 ++ b1)), ([0x0A], .aslAcc), ([0x76, b1], .rorZpx b1), ([0xFE, b1, b2], .incAbsx (b2 ++ b1)),
    ([0xCA], .dex), ([0xBA], .tsx), ([0x28], .plp), ([0x90, b1], .bcc b1), ([0x6C, b1, b2], .jmpInd (b2 ++ b1)),
    ([0x20, b1, b2], .jsr (b2 ++ b1)), ([0x00], .brk), ([0xF8], .sed), ([0xEA], .nop)]

/-- N and Z after `SetNZ(v)` (R31), the other flags of `f` kept. -/
def nzFlags (f : Flags) (v : Byte) : Flags := { f with n := v.getLsbD 7, z := decide (v = 0) }

/-- Each branch with the condition it tests (R231 to R238). -/
def branchForms (s : State) (off : Byte) : List (Instr × Bool) :=
  [(.bpl off, !s.flags.n), (.bmi off, s.flags.n), (.bvc off, !s.flags.v), (.bvs off, s.flags.v),
    (.bcc off, !s.flags.c), (.bcs off, s.flags.c), (.bne off, !s.flags.z), (.beq off, s.flags.z)]

/-- `Operand(mode)` of R84, R85 and R95: A, the byte itself, or the byte at the effective address. -/
def operandByte (d : DataOperand) (s : State) : Byte :=
  match d with
  | .acc => s.a
  | .imm b1 => b1
  | .mem m => s.readByte (effAddr m s)

/-- `signed(v)` of R12. -/
def signed (v : Byte) : Int := if v.toNat < 128 then (v.toNat : Int) else (v.toNat : Int) - 256

/-- A flag as a number 0 or 1. -/
def flagNat (b : Bool) : Nat := if b then 1 else 0

/-- The state a step's instruction is fetched and run from: the random cell holds this step's draw (log 5), the
keypress cell what the collaborator left there (log 6), and the step is counted. -/
def begun (s : State) : State :=
  { s with
    randCell := Config.randomDraw s.ticks
    keyCell := (Config.keyWrite s.ticks).getD s.keyCell
    ticks := s.ticks + 1 }

/-- What a step's fetch is not diverted by: the RTI switch is off, or the opcode at PC is another (R268; log 4). -/
abbrev NoRti (s : State) : Prop := s.cfg.rtiImplemented = false ∨ (begun s).readByte s.pc ≠ 0x40

/-- R82 on the bytes at PC: the instruction the opcode and operand bytes at PC, PC+1 and PC+2 stand for. -/
def fetched (s : State) : Option Instr :=
  decodeInstr (s.readByte s.pc) (s.readByte (s.pc + 1)) (s.readByte (s.pc + 2))

/-- The mnemonics that store to their memory operand: STA, STX, STY, and the read-modify-writes (R60). -/
def storesOperand : List Mnemonic := [.sta, .stx, .sty, .asl, .lsr, .rol, .ror, .inc, .dec]

/-- The addresses an instruction stores to (R60, R143 to R145, R190 to R193, R200, R201, R220 to R222, R244):
the effective address of its memory operand, or the stack bytes it pushes. -/
def storedAddrs (i : Instr) (s : State) : List Addr :=
  match i.form with
  | (m, .data (.mem mo)) =>
    if m ∈ storesOperand then [effAddr mo s]
    else if m = .jsr then [stackAddr s.sp, stackAddr (s.sp - 1)]
    else []
  | (.pha, _) | (.php, _) => [stackAddr s.sp]
  | _ => []

/-- R29's writers of N, which are also those of Z. -/
def nzWriters : List Mnemonic :=
  [.lda, .ldx, .ldy, .adc, .sbc, .and, .ora, .eor, .bit, .asl, .lsr, .rol, .ror, .inc, .dec, .inx, .iny, .dex, .dey,
    .tax, .tay, .txa, .tya, .tsx, .pla, .plp, .cmp, .cpx, .cpy]

/-- R29's writers of V. -/
def vWriters : List Mnemonic := [.adc, .sbc, .bit, .plp, .clv]

/-- R29's writers of B. -/
def bWriters : List Mnemonic := [.brk, .plp]

/-- R29's writers of D. -/
def dWriters : List Mnemonic := [.plp, .cld, .sed]

/-- R29's writers of I. -/
def iWriters : List Mnemonic := [.plp, .cli, .sei]

/-- R29's writers of C. -/
def cWriters : List Mnemonic := [.adc, .sbc, .asl, .lsr, .rol, .ror, .cmp, .cpx, .cpy, .plp, .clc, .sec]

/-- R21's writers of A; of ASL, LSR, ROL and ROR only the accumulator form writes it. -/
def writesA (i : Instr) : Bool :=
  i.mnemonic ∈ ([.lda, .adc, .sbc, .and, .ora, .eor, .txa, .tya, .pla] : List Mnemonic) ∨ i.mode = .acc

/-- R22's writers of X. -/
def xWriters : List Mnemonic := [.ldx, .inx, .dex, .tax, .tsx]

/-- R23's writers of Y. -/
def yWriters : List Mnemonic := [.ldy, .iny, .dey, .tay]

/-- R24's writers of SP. -/
def spWriters : List Mnemonic := [.txs, .pha, .php, .pla, .plp, .jsr, .rts]

/-- The state with other values of D and I. -/
def withDI (s : State) (d i : Bool) : State := { s with flags := { s.flags with d := d, i := i } }

/-- The next state of an accumulator rotate, for repeating it. -/
def rolOnce (s : State) : State :=
  match exec .rolAcc s with
  | .next t => t
  | _ => s

end Sys2Proof.Spec

open Sys2Proof Sys2Proof.Machine Sys2Proof.Spec

/-! ### The start of a run -/

/-- 10 R42: the values at the start of a run, for every setting of the parameters, and at reset. That the two device
cells read 0x00 there is the spec's decision D29, and that the image is zero before the program is D17. -/
def Obligations.ResetGivesStartValues : Prop :=
  State.reset = State.resetWith Config.default ∧
  ∀ (c : Config) (s : State), State.resetWith c = s →
    s.a = 0x00 ∧ s.x = 0x00 ∧ s.y = 0x00 ∧ s.sp = 0xFF ∧ s.pc = c.loadAddr ∧ s.cfg = c ∧
    s.flags = ⟨false, false, false, false, false, false, false⟩ ∧ s.rs = .running ∧
    ∀ a : Addr, s.readByte a = 0x00

/-- 20 R70 and 70 R280 (D17, D18): an image that fits is copied to `LOAD_ADDR` over a zeroed image, the registers,
flags and run state being the start values; an image that does not fit is refused. -/
def Obligations.BootCopiesImageOverZeroedMemory : Prop :=
  ∀ (c : Config) (image : List Byte),
    (c.loadAddr.toNat + image.length ≤ 0x10000 →
      ∃ t, boot c image = .next t ∧
        t.a = 0 ∧ t.x = 0 ∧ t.y = 0 ∧ t.sp = 0xFF ∧ t.pc = c.loadAddr ∧ t.rs = .running ∧ t.cfg = c ∧
        t.flags = ⟨false, false, false, false, false, false, false⟩ ∧
        (∀ k, k < image.length → t.readByte (c.loadAddr + BitVec.ofNat 16 k) = image.getD k 0) ∧
        (∀ a : Addr, (a.toNat < c.loadAddr.toNat ∨ c.loadAddr.toNat + image.length ≤ a.toNat) → t.readByte a = 0)) ∧
    (0x10000 < c.loadAddr.toNat + image.length → boot c image = .refused .imageDoesNotFit)

/-- The reset state is well formed: canonical memory, no listed device cell, R9 (logs 7, 10). -/
def Obligations.ResetStateIsWellFormed : Prop := State.reset.wf

/-! ### Decoding -/

/-- R129: decoding an encoded instruction gives it back, with every operand, whatever bytes follow; the opcode alone
gives its mnemonic, mode and length. -/
def Obligations.DecodeInvertsEncode : Prop :=
  ∀ (i : Instr) (rest : List Byte), i.wf = true →
    decode (encode i ++ rest) = .ok (i, rest) ∧
    decodeOpcode i.opcode = some (i.mnemonic, i.mode, i.length)

/-- The converse (R82, R97): bytes that decode are the encoding of the instruction, and it is an admitted one. -/
def Obligations.DecodedBytesAreItsEncoding : Prop :=
  ∀ (bytes : List Byte) (i : Instr) (rest : List Byte),
    decode bytes = .ok (i, rest) → bytes = encode i ++ rest ∧ i.wf = true ∧ (encode i).length = i.length

/-- R82: each opcode selects one (mnemonic, mode) pair, each admitted pair has exactly one opcode, and the length is
the mode's. -/
def Obligations.OpcodesAndAdmittedPairsCorrespond : Prop :=
  (∀ (m : Mnemonic) (md : Mode), formAdmitted m md = true ↔ ∃ op, decodeOpcode op = some (m, md, md.length)) ∧
  (∀ (op : Byte) (m : Mnemonic) (md : Mode) (len : Nat), decodeOpcode op = some (m, md, len) → len = md.length) ∧
  (∀ (op op' : Byte) (m : Mnemonic) (md : Mode) (len : Nat),
    decodeOpcode op = some (m, md, len) → decodeOpcode op' = some (m, md, len) → op = op')

/-- 30 R82, R99, R100 (G1, D4: log 12): the decoder's row of an opcode is its row of spec/opcode_table.json, none if
the table has none, and the table has 150 rows. -/
def Obligations.DecodeFollowsTheOpcodeTable : Prop :=
  opcodeTable.length = 150 ∧
    ∀ op : Byte, decodeOpcode op = (opcodeTable.find? fun row => row.1 == op).map fun row => row.2

/-- 30 R96: the unknown opcodes are the 106 bytes the rule lists, and no others. -/
def Obligations.UnknownOpcodesAreTheListedBytes : Prop :=
  unknownOpcodes.length = 106 ∧ ∀ op : Byte, decodeOpcode op = none ↔ op ∈ unknownOpcodes

/-- Words written out from R99 and R83, one or more of each family, with any operand bytes: the byte values are the
spec's presumption (G1, D4: log 12). -/
def Obligations.SampleWordsDecode : Prop :=
  ∀ b1 b2 : Byte, ∀ f ∈ sampleWords b1 b2, decode f.1 = .ok (f.2, [])

/-- 30 R125, 47 R230 to R238: the offset byte of a reference at `q + 1` to a label at `t` makes every branch at
`LOAD_ADDR + q` whose condition holds go to `LOAD_ADDR + t`; out of [-128, 127] there is no such byte. The branch
conditions rest on log 18, the wrap modulo 65 536 on log 19. -/
def Obligations.ResolvedBranchReachesItsLabel : Prop :=
  (∀ (s : State) (q t : Nat) (off : Byte), resolveRelative t (q + 1) = some off →
    s.pc = s.cfg.loadAddr + BitVec.ofNat 16 q → ∀ f ∈ branchForms s off, f.2 = true →
    exec f.1 s = .next { s with pc := s.cfg.loadAddr + BitVec.ofNat 16 t }) ∧
  (∀ q t : Nat, resolveRelative t (q + 1) = none ↔ (t : Int) - (q + 1) - 1 < -128 ∨ 127 < (t : Int) - (q + 1) - 1)

/-- 30 R115, R117 (toolchain): the bytes the assembler emits for a form are the encoding of the instruction, and what
it emits for a pair starts with the opcode that decodes to that pair. -/
def Obligations.AssemblerEmitsTheEncoding : Prop :=
  (∀ i : Instr, formBytes i.mnemonic i.mode i.operand.bytes = some (encode i)) ∧
  ∀ (m : Mnemonic) (md : Mode) (operand bytes : List Byte), formBytes m md operand = some bytes →
    ∃ op, bytes = op :: operand ∧ decodeOpcode op = some (m, md, md.length)

/-- R130 (toolchain): wherever the reference stands, before its label or after it, the two bytes it is resolved to hold
`LOAD_ADDR + offset`, low byte first, and no other byte of the buffer changes. -/
def Obligations.AbsoluteReferencesResolveToTheLabel : Prop :=
  ∀ (c : Config) (labels : List (Text × Nat)) (buffer : List Byte) (r : PendingRef) (t : Nat),
    r.relative = false → findName r.label labels = some t → c.loadAddr.toNat + t < 0x10000 →
    r.position + 2 ≤ buffer.length →
    ∃ b, resolveReference c labels buffer r = .ok b ∧ b.length = buffer.length ∧
      b.getD (r.position + 1) 0 ++ b.getD r.position 0 = c.loadAddr + BitVec.ofNat 16 t ∧
      ∀ k, k ≠ r.position → k ≠ r.position + 1 → b.getD k 0 = buffer.getD k 0

/-! ### The engine -/

/-- 60 R260: a step is enabled only while RS is `Running`. There the refresh (log 5) and the collaborator's write (log
6) come first; the instruction at PC is fetched from memory (log 21), decoded, and run by `exec`; an unknown opcode
sets RS and changes nothing else. The one fetch left out, 0x40 with `RTI_IMPLEMENTED` on, is
RtiSwitchRunsTheStatedForm's. -/
def Obligations.StepRunsTheFetchedInstruction : Prop :=
  (∀ s t : State, step s = .next t → s.rs = .running) ∧
  ∀ s : State, s.rs = .running → NoRti s →
    (∀ i, fetched (begun s) = some i →
      decode (fetchBytes (begun s)) = .ok (i, []) ∧ step s = exec i (begun s)) ∧
    (fetched (begun s) = none →
      step s = .next { begun s with rs := .faulted ((begun s).readByte s.pc) })

/-- 60 R261: fetching an opcode with no row ends the run in `Faulted(op)`; no operand byte is read, and no register,
flag or memory byte is changed but the two device cells that began the step, with its draw (log 5) and the
collaborator's write, which R261 does not speak of (log 6); the report is the error with the opcode and a free exit
code (log 22), and there is no snapshot. 0x40 is unknown unless `RTI_IMPLEMENTED` is on (log 4). -/
def Obligations.UnknownOpcodeFaultsTheRun : Prop :=
  ∀ (s : State) (op : Byte), s.rs = .running → NoRti s →
    (begun s).readByte s.pc = op → decodeOpcode op = none →
    fetchBytes (begun s) = [op] ∧
    ∃ t, step s = .next t ∧ t = { begun s with rs := .faulted op } ∧
      t.errorReport = some ⟨Config.exitUnknownInstr, op⟩ ∧ t.snapshot = none

/-- R39, R260: `Halted` and `Faulted` are terminal. That a step there answers a fault is the model's (log 9). -/
def Obligations.TerminalStatesHaveNoStep : Prop :=
  ∀ s : State,
    (s.rs = .halted → step s = .fault .halted) ∧
    (∀ op, s.rs = .faulted op → step s = .fault (.unknownInstruction op)) ∧
    (s.rs = .running → ∃ t, step s = .next t)

/-- R262: no instruction raises an exception, whatever the state; a step from `Running` answers a next state, and that
is `Faulted` only for the opcode at PC, when it is unknown. -/
def Obligations.OnlyUnknownOpcodesFault : Prop :=
  (∀ (i : Instr) (s : State), ∃ t, exec i s = .next t ∧ ∀ op, t.rs = .faulted op → s.rs = .faulted op) ∧
  ∀ s : State, s.rs = .running →
    ∃ t, step s = .next t ∧ ∀ op, t.rs = .faulted op → op = (begun s).readByte s.pc ∧ decodeOpcode op = none

/-- 60 R262, R265, R276: from `Running` a step goes on, halts or faults: it faults exactly on an unknown opcode, and
halts exactly on BRK, or with `PLP_B_HALTS` on a PLP that leaves B set (D14: log 3). The one fetch left out, 0x40 with
`RTI_IMPLEMENTED` on, is RtiSwitchRunsTheStatedForm's, which leaves RS. -/
def Obligations.RunEndsOnlyByBrkOrUnknownOpcode : Prop :=
  ∀ s : State, s.rs = .running → NoRti s →
    ∃ t, step s = .next t ∧
      (∀ op, t.rs = .faulted op ↔ fetched (begun s) = none ∧ op = (begun s).readByte s.pc) ∧
      (t.rs = .halted ↔ ∃ i, fetched (begun s) = some i ∧
        (i.mnemonic = .brk ∨ i.mnemonic = .plp ∧ s.cfg.plpBHalts = true ∧ t.flags.b = true))

/-- Every step keeps the state well formed (logs 1, 7, 10): the memory list stays canonical and within 16-bit
addresses, lists no device cell, and the parameters still meet R9. -/
def Obligations.StepKeepsStateWellFormed : Prop :=
  ∀ s t : State, s.wf → step s = .next t → t.wf

/-- The parameters are fixed (R8, log 1), and each step takes the next free values (log 5). -/
def Obligations.StepKeepsParameters : Prop :=
  ∀ s t : State, step s = .next t → t.cfg = s.cfg ∧ t.ticks = s.ticks + 1

/-- R62, for every draw `r` and collaborator write `k`: the step begins with `r` in `RAND_ADDR` and no other byte but
`KEY_ADDR` changed; an instruction that stores elsewhere leaves it; whatever a step left there is gone when the next
begins. -/
def Obligations.RandomCellHoldsTheStepsDraw : Prop :=
  ∀ (r : Byte) (k : Option Byte) (s : State),
    (beginCycle r k s).readByte s.cfg.randAddr = r ∧
    (∀ a : Addr, a ≠ s.cfg.randAddr → a ≠ s.cfg.keyAddr → (beginCycle r k s).readByte a = s.readByte a) ∧
    (∀ i t, exec i (beginCycle r k s) = .next t → s.cfg.randAddr ∉ storedAddrs i (beginCycle r k s) →
      t.readByte s.cfg.randAddr = r) ∧
    (∀ i t r' k', exec i (beginCycle r k s) = .next t → (beginCycle r' k' t).readByte s.cfg.randAddr = r')

/-- 20 R63, R67 (D19, D24): a key the collaborator writes is what the next step reads at `KEY_ADDR`; with no write the
cell keeps what either agent last stored, a store by the program included. -/
def Obligations.KeypressCellHoldsTheLastWrite : Prop :=
  ∀ (r : Byte) (k : Option Byte) (s : State), s.cfg.keyAddr ≠ s.cfg.randAddr →
    (beginCycle r k s).readByte s.cfg.keyAddr = k.getD (s.readByte s.cfg.keyAddr) ∧
    ∃ t, exec (.staAbs s.cfg.keyAddr) s = .next t ∧
      (beginCycle r k t).readByte s.cfg.keyAddr = k.getD s.a

/-- 20 R71, 70 R291 (D17): a store to the next instruction's opcode is what the next step fetches and runs. -/
def Obligations.StoreIsSeenByTheNextFetch : Prop :=
  ∀ (s t : State) (w : Addr) (i : Instr), s.rs = .running →
    w = s.pc + 3 → w ≠ s.cfg.randAddr → w ≠ s.cfg.keyAddr →
    exec (.staAbs w) s = .next t →
    decodeInstr s.a ((begun t).readByte (w + 1)) ((begun t).readByte (w + 2)) = some i →
    step t = exec i (begun t)

/-- R268's RTI form, which the spec does not admit (G17, D6): what the model does with 0x40 when the switch is on
(log 4). -/
def Obligations.RtiSwitchRunsTheStatedForm : Prop :=
  ∀ s : State, s.rs = .running → s.cfg.rtiImplemented = true → (begun s).readByte s.pc = 0x40 →
    step s = .next { begun s with
      flags := Flags.unpack ((begun s).readByte (stackAddr (s.sp + 1)))
      pc := (begun s).readByte (stackAddr (s.sp + 3)) ++ (begun s).readByte (stackAddr (s.sp + 2))
      sp := s.sp + 3 }

/-! ### Memory -/

/-- 20 R51, R55, R67 (D1, D19, D28): every address reads back the byte last written, and a write changes no other. -/
def Obligations.ReadReturnsTheLastWrite : Prop :=
  ∀ (s : State) (a : Addr) (v : Byte),
    (s.writeByte a v).readByte a = v ∧
    ∀ a' : Addr, a' ≠ a → (s.writeByte a v).readByte a' = s.readByte a'

/-- 20 R60: every byte of memory keeps its value but those the instruction stores to, for all 150 forms. -/
def Obligations.MemoryChangesOnlyWhereStored : Prop :=
  ∀ (i : Instr) (s t : State), exec i s = .next t →
    ∀ a : Addr, a ∉ storedAddrs i s → t.readByte a = s.readByte a

/-- 20 R64 (R9): a store to a framebuffer cell stores the whole byte and no other cell, and neither the refresh nor a
keypress touches the framebuffer; the collaborator's view is those bytes, unless the run has faulted (R66, R263). -/
def Obligations.FramebufferIsOrdinaryMemory : Prop :=
  ∀ (s : State) (k : Nat), s.cfg.wf = true → k < 1024 →
    (∃ t, exec (.staAbs (s.framebufferAddr k)) s = .next t ∧ t.readByte (s.framebufferAddr k) = s.a ∧
      (∀ j, j < 1024 → j ≠ k →
        t.readByte (s.framebufferAddr j) = s.readByte (s.framebufferAddr j) ∧
        t.framebufferByte j = s.framebufferByte j) ∧
      ((∀ op, s.rs ≠ .faulted op) → t.framebufferByte k = some s.a)) ∧
    (∀ r key, (beginCycle r key s).readByte (s.framebufferAddr k) = s.readByte (s.framebufferAddr k) ∧
      (beginCycle r key s).framebufferByte k = s.framebufferByte k) ∧
    ((∀ op, s.rs ≠ .faulted op) → s.framebufferByte k = some (s.readByte (s.framebufferAddr k)))

/-! ### Frames over every instruction -/

/-- 10 R29: a flag changes only by the instructions its row names as writers. -/
def Obligations.FlagsChangeOnlyByTheirWriters : Prop :=
  ∀ (i : Instr) (s t : State), exec i s = .next t →
    (i.mnemonic ∉ nzWriters → t.flags.n = s.flags.n ∧ t.flags.z = s.flags.z) ∧
    (i.mnemonic ∉ vWriters → t.flags.v = s.flags.v) ∧
    (i.mnemonic ∉ bWriters → t.flags.b = s.flags.b) ∧
    (i.mnemonic ∉ dWriters → t.flags.d = s.flags.d) ∧
    (i.mnemonic ∉ iWriters → t.flags.i = s.flags.i) ∧
    (i.mnemonic ∉ cWriters → t.flags.c = s.flags.c)

/-- 10 R21 to R24, R27: a register changes only by the instructions its rule names as writers; PC advances by the
length for every instruction but JMP, JSR, RTS and the branches; RS, the parameters and the step counter are left,
but that BRK halts and PLP may (R224). -/
def Obligations.RegistersChangeOnlyByTheirWriters : Prop :=
  ∀ (i : Instr) (s t : State), exec i s = .next t →
    (writesA i = false → t.a = s.a) ∧
    (i.mnemonic ∉ xWriters → t.x = s.x) ∧
    (i.mnemonic ∉ yWriters → t.y = s.y) ∧
    (i.mnemonic ∉ spWriters → t.sp = s.sp) ∧
    (i.mnemonic ∉ ([.jmp, .jsr, .rts] : List Mnemonic) → i.mode ≠ .rel → t.pc = s.pc + BitVec.ofNat 16 i.length) ∧
    (i.mnemonic ≠ .brk → i.mnemonic ≠ .plp → t.rs = s.rs) ∧
    t.cfg = s.cfg ∧ t.ticks = s.ticks

/-- R34: D and I are stored bits with no effect. An instruction but PHP does the same whatever D and I hold: next
states differ in D and I at most. Only PLP, CLD, SED, CLI and SEI write them. -/
def Obligations.DecimalAndInterruptFlagsHaveNoEffect : Prop :=
  ∀ (i : Instr) (s : State) (d k : Bool), i.mnemonic ≠ .php →
    ∃ t u, exec i s = .next t ∧ exec i (withDI s d k) = .next u ∧
      withDI u false false = withDI t false false ∧
      (i.mnemonic ∉ ([.plp, .cld, .sed] : List Mnemonic) → t.flags.d = s.flags.d ∧ u.flags.d = d) ∧
      (i.mnemonic ∉ ([.plp, .cli, .sei] : List Mnemonic) → t.flags.i = s.flags.i ∧ u.flags.i = k)

/-! ### Operand forms -/

/-- 30 R86 to R91 (G3, D10, D12: logs 3, 13): the effective addresses as numbers, with `ZP_INDEX_WRAP` as it stands. -/
def Obligations.EffectiveAddressesOfDirectModes : Prop :=
  ∀ (s : State) (b1 : Byte) (w : Addr),
    (effAddr (.zp b1) s).toNat = b1.toNat ∧
    effAddr (.abs w) s = w ∧
    (s.cfg.zpIndexWrap = true →
      (effAddr (.zpx b1) s).toNat = (b1.toNat + s.x.toNat) % 256 ∧
      (effAddr (.zpy b1) s).toNat = (b1.toNat + s.y.toNat) % 256) ∧
    (s.cfg.zpIndexWrap = false →
      (effAddr (.zpx b1) s).toNat = b1.toNat + s.x.toNat ∧
      (effAddr (.zpy b1) s).toNat = b1.toNat + s.y.toNat) ∧
    (effAddr (.absx w) s).toNat = (w.toNat + s.x.toNat) % 65536 ∧
    (effAddr (.absy w) s).toNat = (w.toNat + s.y.toNat) % 65536

/-- 30 R93, R94 (G3, G4, D10, D12: logs 3, 13): the pointers of the indirect modes, low byte first; the high byte's
address wraps inside page zero with `ZP_INDEX_WRAP`. -/
def Obligations.EffectiveAddressesOfIndirectModes : Prop :=
  ∀ (s : State) (b1 : Byte) (p p' : Addr),
    (s.cfg.zpIndexWrap = true → p.toNat = (b1.toNat + s.x.toNat) % 256 → p'.toNat = (p.toNat + 1) % 256 →
      effAddr (.indx b1) s = s.readByte p' ++ s.readByte p) ∧
    (s.cfg.zpIndexWrap = false → p.toNat = b1.toNat + s.x.toNat → p'.toNat = p.toNat + 1 →
      effAddr (.indx b1) s = s.readByte p' ++ s.readByte p) ∧
    (s.cfg.zpIndexWrap = true → p.toNat = b1.toNat → p'.toNat = (b1.toNat + 1) % 256 →
      (effAddr (.indy b1) s).toNat = ((s.readByte p' ++ s.readByte p).toNat + s.y.toNat) % 65536) ∧
    (s.cfg.zpIndexWrap = false → p.toNat = b1.toNat → p'.toNat = b1.toNat + 1 →
      (effAddr (.indy b1) s).toNat = ((s.readByte p' ++ s.readByte p).toNat + s.y.toNat) % 65536)

/-! ### Loads, stores, arithmetic -/

/-- R140, R141, R142: every form of LDA, LDX and LDY. -/
def Obligations.LoadsWriteTheOperandAndSetNZ : Prop :=
  ∀ (s : State) (b1 : Byte) (w : Addr),
    (∀ f ∈ ldaForms b1 w, exec f.1 s = .next { s with
      a := operandByte f.2.1 s, flags := nzFlags s.flags (operandByte f.2.1 s), pc := s.pc + f.2.2 }) ∧
    (∀ f ∈ ldxForms b1 w, exec f.1 s = .next { s with
      x := operandByte f.2.1 s, flags := nzFlags s.flags (operandByte f.2.1 s), pc := s.pc + f.2.2 }) ∧
    (∀ f ∈ ldyForms b1 w, exec f.1 s = .next { s with
      y := operandByte f.2.1 s, flags := nzFlags s.flags (operandByte f.2.1 s), pc := s.pc + f.2.2 })

/-- R143, R144, R145: every form of STA, STX and STY writes the register to the effective address, and no flag. -/
def Obligations.StoresWriteTheRegister : Prop :=
  ∀ (s : State) (b1 : Byte) (w : Addr),
    (∀ f ∈ staForms b1 w, exec f.1 s = .next { s.writeByte (effAddr f.2.1 s) s.a with pc := s.pc + f.2.2 }) ∧
    (∀ f ∈ stxForms b1 w, exec f.1 s = .next { s.writeByte (effAddr f.2.1 s) s.x with pc := s.pc + f.2.2 }) ∧
    (∀ f ∈ styForms b1 w, exec f.1 s = .next { s.writeByte (effAddr f.2.1 s) s.y with pc := s.pc + f.2.2 })

/-- R162: every form of ADC writes the adder's result to A and its carry and overflow to C and V. -/
def Obligations.AdcAddsThroughTheAdder : Prop :=
  ∀ (s : State) (b1 : Byte) (w : Addr), ∀ f ∈ adcForms b1 w,
    exec f.1 s = .next { s with
      a := (addCore s.a (operandByte f.2.1 s) s.flags.c).r
      flags := nzFlags { s.flags with
        c := (addCore s.a (operandByte f.2.1 s) s.flags.c).c
        v := (addCore s.a (operandByte f.2.1 s) s.flags.c).v } (addCore s.a (operandByte f.2.1 s) s.flags.c).r
      pc := s.pc + f.2.2 }

/-- R163: every form of SBC is the adder on the complement of the operand, C meaning no borrow. -/
def Obligations.SbcAddsTheComplement : Prop :=
  ∀ (s : State) (b1 : Byte) (w : Addr), ∀ f ∈ sbcForms b1 w,
    exec f.1 s = .next { s with
      a := (addCore s.a (operandByte f.2.1 s ^^^ 0xFF) s.flags.c).r
      flags := nzFlags { s.flags with
        c := (addCore s.a (operandByte f.2.1 s ^^^ 0xFF) s.flags.c).c
        v := (addCore s.a (operandByte f.2.1 s ^^^ 0xFF) s.flags.c).v }
          (addCore s.a (operandByte f.2.1 s ^^^ 0xFF) s.flags.c).r
      pc := s.pc + f.2.2 }

/-- R160 with its two equivalences (which the spec marks derived): the adder against integer arithmetic. -/
def Obligations.AdderMatchesIntegerSum : Prop :=
  ∀ (a b : Byte) (cin : Bool),
    (addCore a b cin).r.toNat = (a.toNat + b.toNat + flagNat cin) % 256 ∧
    ((addCore a b cin).c = true ↔ 255 < a.toNat + b.toNat + flagNat cin) ∧
    ((addCore a b cin).v = true ↔
      signed a + signed b + (flagNat cin : Int) < -128 ∨ 127 < signed a + signed b + (flagNat cin : Int))

/-- The equivalence R163 marks derived: on the complement the adder subtracts with borrow `1 - C`. -/
def Obligations.AdderOnComplementSubtracts : Prop :=
  ∀ (a m : Byte) (c : Bool),
    ((addCore a (m ^^^ 0xFF) c).r.toNat : Int) = ((a.toNat : Int) - m.toNat - (1 - flagNat c : Int)) % 256 ∧
    ((addCore a (m ^^^ 0xFF) c).c = true ↔ 0 ≤ (a.toNat : Int) - m.toNat - (1 - flagNat c : Int)) ∧
    ((addCore a (m ^^^ 0xFF) c).v = true ↔
      signed a - signed m - (1 - flagNat c : Int) < -128 ∨ 127 < signed a - signed m - (1 - flagNat c : Int))

/-- 41 R166 to R169 (G10, D5, D16: log 17): every form of CMP, CPX and CPY sets C, Z and N from the unsigned
comparison and writes nothing else but PC. -/
def Obligations.ComparesSetTheFlags : Prop :=
  ∀ (s : State) (b1 : Byte) (w : Addr),
    (∀ f ∈ cmpForms b1 w, exec f.1 s = .next { s with
      flags := { s.flags with
        c := decide ((operandByte f.2.1 s).toNat ≤ s.a.toNat)
        z := decide (s.a = operandByte f.2.1 s)
        n := (s.a - operandByte f.2.1 s).getLsbD 7 }, pc := s.pc + f.2.2 }) ∧
    (∀ f ∈ cpxForms b1 w, exec f.1 s = .next { s with
      flags := { s.flags with
        c := decide ((operandByte f.2.1 s).toNat ≤ s.x.toNat)
        z := decide (s.x = operandByte f.2.1 s)
        n := (s.x - operandByte f.2.1 s).getLsbD 7 }, pc := s.pc + f.2.2 }) ∧
    (∀ f ∈ cpyForms b1 w, exec f.1 s = .next { s with
      flags := { s.flags with
        c := decide ((operandByte f.2.1 s).toNat ≤ s.y.toNat)
        z := decide (s.y = operandByte f.2.1 s)
        n := (s.y - operandByte f.2.1 s).getLsbD 7 }, pc := s.pc + f.2.2 })

/-- 42 R180 to R182 (G9, D16: log 16): every form of AND, ORA and EOR. -/
def Obligations.LogicWritesAAndSetsNZ : Prop :=
  ∀ (s : State) (b1 : Byte) (w : Addr),
    (∀ f ∈ andForms b1 w, exec f.1 s = .next { s with
      a := s.a &&& operandByte f.2.1 s, flags := nzFlags s.flags (s.a &&& operandByte f.2.1 s), pc := s.pc + f.2.2 }) ∧
    (∀ f ∈ oraForms b1 w, exec f.1 s = .next { s with
      a := s.a ||| operandByte f.2.1 s, flags := nzFlags s.flags (s.a ||| operandByte f.2.1 s), pc := s.pc + f.2.2 }) ∧
    (∀ f ∈ eorForms b1 w, exec f.1 s = .next { s with
      a := s.a ^^^ operandByte f.2.1 s, flags := nzFlags s.flags (s.a ^^^ operandByte f.2.1 s), pc := s.pc + f.2.2 })

/-- 42 R183 (G8, D15: log 16): both forms of BIT. -/
def Obligations.BitCopiesOperandBits : Prop :=
  ∀ (s : State) (b1 : Byte) (w : Addr), ∀ f ∈ bitForms b1 w,
    exec f.1 s = .next { s with
      flags := { s.flags with
        z := decide (s.a &&& s.readByte (effAddr f.2.1 s) = 0)
        n := (s.readByte (effAddr f.2.1 s)).getLsbD 7
        v := (s.readByte (effAddr f.2.1 s)).getLsbD 6 }
      pc := s.pc + f.2.2 }

/-! ### Shifts, increments, transfers -/

/-- 43 R190 to R193 (G9, D16: log 16): the accumulator forms, each result bit given. -/
def Obligations.AccumulatorShiftsMoveOneBit : Prop :=
  ∀ s : State,
    (∃ r : Byte, (∀ k, r.getLsbD k = (decide (0 < k ∧ k < 8) && s.a.getLsbD (k - 1))) ∧
      exec .aslAcc s = .next { s with
        a := r, flags := nzFlags { s.flags with c := s.a.getLsbD 7 } r, pc := s.pc + 1 }) ∧
    (∃ r : Byte, (∀ k, r.getLsbD k = s.a.getLsbD (k + 1)) ∧
      exec .lsrAcc s = .next { s with
        a := r, flags := nzFlags { s.flags with c := s.a.getLsbD 0 } r, pc := s.pc + 1 }) ∧
    (∃ r : Byte, (∀ k, k < 8 → r.getLsbD k = if k = 0 then s.flags.c else s.a.getLsbD (k - 1)) ∧
      exec .rolAcc s = .next { s with
        a := r, flags := nzFlags { s.flags with c := s.a.getLsbD 7 } r, pc := s.pc + 1 }) ∧
    (∃ r : Byte, (∀ k, k < 8 → r.getLsbD k = if k = 7 then s.flags.c else s.a.getLsbD (k + 1)) ∧
      exec .rorAcc s = .next { s with
        a := r, flags := nzFlags { s.flags with c := s.a.getLsbD 0 } r, pc := s.pc + 1 })

/-- 43 R190 to R193 (G9, D16: log 16): the memory forms read one byte and write the result to the same address. -/
def Obligations.MemoryShiftsWriteBack : Prop :=
  ∀ (s : State) (b1 : Byte) (w : Addr),
    (∀ f ∈ aslForms b1 w, ∀ v r, v = s.readByte (effAddr f.2.1 s) → r = v <<< 1 →
      exec f.1 s = .next { s.writeByte (effAddr f.2.1 s) r with
        flags := nzFlags { s.flags with c := v.getLsbD 7 } r, pc := s.pc + f.2.2 }) ∧
    (∀ f ∈ lsrForms b1 w, ∀ v r, v = s.readByte (effAddr f.2.1 s) → r = v >>> 1 →
      exec f.1 s = .next { s.writeByte (effAddr f.2.1 s) r with
        flags := nzFlags { s.flags with c := v.getLsbD 0 } r, pc := s.pc + f.2.2 }) ∧
    (∀ f ∈ rolForms b1 w, ∀ v r, v = s.readByte (effAddr f.2.1 s) → r = (v <<< 1) ||| BitVec.ofNat 8 (flagNat s.flags.c) →
      exec f.1 s = .next { s.writeByte (effAddr f.2.1 s) r with
        flags := nzFlags { s.flags with c := v.getLsbD 7 } r, pc := s.pc + f.2.2 }) ∧
    (∀ f ∈ rorForms b1 w, ∀ v r, v = s.readByte (effAddr f.2.1 s) → r = (v >>> 1) ||| BitVec.ofNat 8 (128 * flagNat s.flags.c) →
      exec f.1 s = .next { s.writeByte (effAddr f.2.1 s) r with
        flags := nzFlags { s.flags with c := v.getLsbD 0 } r, pc := s.pc + f.2.2 })

/-- 43 R192's last corner case: nine ROLs return A and C to their start values. -/
def Obligations.NineRotationsRestoreAAndCarry : Prop :=
  ∀ s : State,
    (Nat.repeat rolOnce 9 s).a = s.a ∧ (Nat.repeat rolOnce 9 s).flags.c = s.flags.c ∧
    (Nat.repeat rolOnce 9 s).pc = s.pc + 9

/-- 44 R200, R201 (G9, D16: log 16): every form of INC and DEC reads, steps modulo 256 and writes the same address. -/
def Obligations.MemoryIncrementsWriteBack : Prop :=
  ∀ (s : State) (b1 : Byte) (w : Addr),
    (∀ f ∈ incForms b1 w, ∀ r : Byte, r.toNat = ((s.readByte (effAddr f.2.1 s)).toNat + 1) % 256 →
      exec f.1 s = .next { s.writeByte (effAddr f.2.1 s) r with flags := nzFlags s.flags r, pc := s.pc + f.2.2 }) ∧
    (∀ f ∈ decForms b1 w, ∀ r : Byte, r.toNat = ((s.readByte (effAddr f.2.1 s)).toNat + 255) % 256 →
      exec f.1 s = .next { s.writeByte (effAddr f.2.1 s) r with flags := nzFlags s.flags r, pc := s.pc + f.2.2 })

/-- 44 R202 to R205 (G9, D16: log 16): INX, INY, DEX and DEY. -/
def Obligations.IndexIncrementsSetNZ : Prop :=
  ∀ s : State,
    exec .inx s = .next { s with x := s.x + 1, flags := nzFlags s.flags (s.x + 1), pc := s.pc + 1 } ∧
    exec .iny s = .next { s with y := s.y + 1, flags := nzFlags s.flags (s.y + 1), pc := s.pc + 1 } ∧
    exec .dex s = .next { s with x := s.x - 1, flags := nzFlags s.flags (s.x - 1), pc := s.pc + 1 } ∧
    exec .dey s = .next { s with y := s.y - 1, flags := nzFlags s.flags (s.y - 1), pc := s.pc + 1 }

/-- R210 to R215: the six transfers; all but TXS set N and Z. -/
def Obligations.TransfersCopyRegisters : Prop :=
  ∀ s : State,
    exec .tax s = .next { s with x := s.a, flags := nzFlags s.flags s.a, pc := s.pc + 1 } ∧
    exec .tay s = .next { s with y := s.a, flags := nzFlags s.flags s.a, pc := s.pc + 1 } ∧
    exec .txa s = .next { s with a := s.x, flags := nzFlags s.flags s.x, pc := s.pc + 1 } ∧
    exec .tya s = .next { s with a := s.y, flags := nzFlags s.flags s.y, pc := s.pc + 1 } ∧
    exec .tsx s = .next { s with x := s.sp, flags := nzFlags s.flags s.sp, pc := s.pc + 1 } ∧
    exec .txs s = .next { s with sp := s.x, pc := s.pc + 1 }

/-! ### Stack -/

/-- 46 R221, R222 with R220 and R35 (G5, G6, D7, D8: logs 14, 15): PHA and PHP write the stack byte SP designates and
decrement SP; the byte PHP pushes is N V 1 B D I Z C. -/
def Obligations.PushesWriteTheStackByte : Prop :=
  ∀ s : State,
    exec .pha s = .next { s.writeByte (stackAddr s.sp) s.a with sp := s.sp - 1, pc := s.pc + 1 } ∧
    ∃ p : Byte,
      exec .php s = .next { s.writeByte (stackAddr s.sp) p with sp := s.sp - 1, pc := s.pc + 1 } ∧
      p.getLsbD 7 = s.flags.n ∧ p.getLsbD 6 = s.flags.v ∧ p.getLsbD 5 = true ∧ p.getLsbD 4 = s.flags.b ∧
      p.getLsbD 3 = s.flags.d ∧ p.getLsbD 2 = s.flags.i ∧ p.getLsbD 1 = s.flags.z ∧ p.getLsbD 0 = s.flags.c

/-- 46 R223, R224 with R220 and R36 (G5, G6, D7, D8, D14: logs 3, 14, 15): PLA and PLP increment SP and read the byte
it then designates; PLP writes all seven flags from it, bit 5 ignored, and with `PLP_B_HALTS` halts if B is set. -/
def Obligations.PullsReadTheStackByte : Prop :=
  ∀ (s : State) (v : Byte), v = s.readByte (stackAddr (s.sp + 1)) →
    exec .pla s = .next { s with a := v, sp := s.sp + 1, flags := nzFlags s.flags v, pc := s.pc + 1 } ∧
    exec .plp s = .next { s with
      sp := s.sp + 1
      flags := ⟨v.getLsbD 7, v.getLsbD 6, v.getLsbD 4, v.getLsbD 3, v.getLsbD 2, v.getLsbD 1, v.getLsbD 0⟩
      pc := s.pc + 1
      rs := if s.cfg.plpBHalts = true ∧ v.getLsbD 4 = true then .halted else s.rs }

/-- 46 R220 (G6, D8: log 15): a push never leaves the stack page, and pulling after it gives the byte and SP back. -/
def Obligations.StackStaysInItsPageAndInverts : Prop :=
  ∀ (s : State) (v : Byte),
    (stackAddr s.sp).toNat = 0x0100 + s.sp.toNat ∧
    (s.push v).pullByte = v ∧ (s.push v).pulled.sp = s.sp ∧
    ∀ a : Addr, (a.toNat < 0x0100 ∨ 0x01FF < a.toNat) → (s.push v).readByte a = s.readByte a

/-- 46 R224's corner case: PHP in one step and PLP in the next, whatever is drawn or typed between, leave all seven
flags and SP as they were, if the stack byte is not a device cell. -/
def Obligations.PhpThenPlpRestoresTheFlags : Prop :=
  ∀ (s t : State) (r : Byte) (k : Option Byte),
    stackAddr s.sp ≠ s.cfg.randAddr → stackAddr s.sp ≠ s.cfg.keyAddr → exec .php s = .next t →
    ∃ u, exec .plp (beginCycle r k t) = .next u ∧ u.flags = s.flags ∧ u.sp = s.sp ∧ u.pc = s.pc + 2 ∧
      u.a = s.a ∧ u.x = s.x ∧ u.y = s.y

/-! ### Control flow -/

/-- 47 R230 to R238 (G12, D4, D12: logs 18, 19): each branch goes to `PC + 2 + sext_16(b1)` exactly if its flag has
the value its rule names, else to `PC + 2`; nothing else changes. -/
def Obligations.BranchesTestTheirFlag : Prop :=
  ∀ (s : State) (off : Byte),
    ∀ f ∈ branchForms s off,
    ∃ target : Addr, (target.toNat : Int) = ((s.pc.toNat : Int) + 2 + if f.2 then signed off else 0) % 65536 ∧
      exec f.1 s = .next { s with pc := target }

/-- 48 R241, 30 R92 (G4, D11: logs 3, 13): JMP writes PC and nothing else; the indirect form reads the target low byte
first, the high byte from the next address, or from the start of the page with `JMP_IND_PAGE_WRAP`. -/
def Obligations.JmpSetsPC : Prop :=
  ∀ (s : State) (w : Addr),
    exec (.jmpAbs w) s = .next { s with pc := w } ∧
    ∀ h : Addr, (s.cfg.jmpIndPageWrap = false → h.toNat = (w.toNat + 1) % 65536) →
      (s.cfg.jmpIndPageWrap = true → h.toNat = w.toNat / 256 * 256 + (w.toNat + 1) % 256) →
      exec (.jmpInd w) s = .next { s with pc := s.readByte h ++ s.readByte w }

/-- 48 R244 (G6, G7, D8, D9: logs 3, 15): JSR pushes `PC + JSR_RET_BIAS` high byte first and jumps. -/
def Obligations.JsrPushesTheReturnAddress : Prop :=
  ∀ (s : State) (w : Addr) (hi lo : Byte), hi ++ lo = s.pc + s.cfg.jsrRetBias →
    exec (.jsr w) s = .next
      { (s.writeByte (stackAddr s.sp) hi).writeByte (stackAddr (s.sp - 1)) lo with sp := s.sp - 2, pc := w }

/-- 48 R245 (G6, G7, D8, D9: logs 3, 15): RTS pulls low, then high, and adds `3 - JSR_RET_BIAS`. -/
def Obligations.RtsPullsTheReturnAddress : Prop :=
  ∀ s : State, exec .rts s = .next { s with
    sp := s.sp + 2
    pc := (s.readByte (stackAddr (s.sp + 2)) ++ s.readByte (stackAddr (s.sp + 1))) + (3 - s.cfg.jsrRetBias) }

/-- 48 R245, 95 W7: JSR, then RTS in the next step at the target, whatever is drawn or typed between, returns to the
instruction after the call with A, X, Y, SP and every flag as before, if neither stack byte is a device cell. -/
def Obligations.JsrThenRtsReturnsAfterTheCall : Prop :=
  ∀ (s t : State) (w : Addr) (r : Byte) (k : Option Byte),
    stackAddr s.sp ≠ s.cfg.randAddr → stackAddr s.sp ≠ s.cfg.keyAddr →
    stackAddr (s.sp - 1) ≠ s.cfg.randAddr → stackAddr (s.sp - 1) ≠ s.cfg.keyAddr →
    exec (.jsr w) s = .next t →
    t.pc = w ∧ ∃ u, exec .rts (beginCycle r k t) = .next u ∧ u.pc = s.pc + 3 ∧ u.sp = s.sp ∧
      u.a = s.a ∧ u.x = s.x ∧ u.y = s.y ∧ u.flags = s.flags

/-- R247, with R39 and R40: BRK sets B, advances PC by 1 and halts; it changes nothing else; the stopped flag is raised
and the snapshot is the registers and flags. -/
def Obligations.BrkHaltsWithItsSnapshot : Prop :=
  ∀ s : State, ∃ t,
    exec .brk s = .next t ∧ t = { s with flags := { s.flags with b := true }, pc := s.pc + 1, rs := .halted } ∧
    t.stopped = true ∧
    t.snapshot = some ⟨s.a, s.x, s.y, s.sp, s.pc + 1, { s.flags with b := true }⟩ ∧
    ∀ a, t.dumpByte a = some (s.readByte a)

/-- 49 R250 to R257 (G11, D5: log 17): each flag instruction writes the flag it names and PC; NOP writes PC alone. -/
def Obligations.FlagInstructionsWriteOneFlag : Prop :=
  ∀ s : State,
    exec .clc s = .next { s with flags := { s.flags with c := false }, pc := s.pc + 1 } ∧
    exec .sec s = .next { s with flags := { s.flags with c := true }, pc := s.pc + 1 } ∧
    exec .cli s = .next { s with flags := { s.flags with i := false }, pc := s.pc + 1 } ∧
    exec .sei s = .next { s with flags := { s.flags with i := true }, pc := s.pc + 1 } ∧
    exec .clv s = .next { s with flags := { s.flags with v := false }, pc := s.pc + 1 } ∧
    exec .cld s = .next { s with flags := { s.flags with d := false }, pc := s.pc + 1 } ∧
    exec .sed s = .next { s with flags := { s.flags with d := true }, pc := s.pc + 1 } ∧
    exec .nop s = .next { s with pc := s.pc + 1 }

/-! ### What is observed of a faulted run -/

/-- R263 (N22, D21): a faulted run shows the opcode byte and no snapshot, dump or framebuffer; no step follows, and it
never counts as halted. Two faulted runs of one opcode are told apart by no view and by no step, whatever their
registers and memory. That these views are all there is to observe is log 25. -/
def Obligations.FaultedRunReportsNothingElse : Prop :=
  ∀ (s t : State) (op : Byte), s.rs = .faulted op → t.rs = .faulted op →
    s.errorReport.map (·.opcode) = some op ∧ s.stopped = false ∧ s.snapshot = none ∧ (∀ a, s.dumpByte a = none) ∧
    (∀ k, s.framebufferByte k = none) ∧ s.framebuffer = none ∧
    (∀ u, step s ≠ .next u) ∧ step s = step t ∧ s.errorReport = t.errorReport
end

