-- ==== Sys2Proof/Laws/Words.lean ====
section
/-! SUPPORT. The laws of the byte helpers: what each is as a number, and a word as its two bytes. -/

namespace Sys2Proof

theorem toNat_hiLo (h l : Byte) : (hiLo h l).toNat = h.toNat * 256 + l.toNat := by
  have := l.isLt
  simp only [hiLo, BitVec.toNat_append]
  rw [← Nat.shiftLeft_add_eq_or_of_lt (by omega), Nat.shiftLeft_eq]

theorem toNat_loByte (w : Addr) : (loByte w).toNat = w.toNat % 256 := by
  simp [loByte]

theorem toNat_hiByte (w : Addr) : (hiByte w).toNat = w.toNat / 256 := by
  have := w.isLt
  simp [hiByte, Nat.shiftRight_eq_div_pow]; omega

@[simp] theorem toNat_zext16 (b : Byte) : (zext16 b).toNat = b.toNat := by
  have := b.isLt
  simp [zext16]; omega

@[simp] theorem loByte_hiLo (h l : Byte) : loByte (hiLo h l) = l := by
  apply BitVec.eq_of_toNat_eq
  have := l.isLt
  rw [toNat_loByte, toNat_hiLo]; omega

@[simp] theorem hiByte_hiLo (h l : Byte) : hiByte (hiLo h l) = h := by
  apply BitVec.eq_of_toNat_eq
  have := l.isLt
  rw [toNat_hiByte, toNat_hiLo]; omega

@[simp] theorem hiLo_hiByte_loByte (w : Addr) : hiLo (hiByte w) (loByte w) = w := by
  apply BitVec.eq_of_toNat_eq
  rw [toNat_hiLo, toNat_loByte, toNat_hiByte]; omega

/-- `sext_16` as an integer: the byte read as signed, modulo 65 536. -/
theorem toNat_sext16 (b : Byte) : (sext16 b).toNat = if b.toNat < 128 then b.toNat else b.toNat + 65280 := by
  have := b.isLt
  rw [sext16, BitVec.toNat_signExtend, BitVec.toNat_setWidth, BitVec.msb_eq_decide]
  by_cases h : b.toNat < 128
  · have h' : ¬ 128 ≤ b.toNat := by omega
    simp [h, h']; omega
  · have h' : 128 ≤ b.toNat := by omega
    simp [h, h']; omega

end Sys2Proof
end

