-- ==== Sys2Proof/Laws/Decode.lean ====
section
/-! SUPPORT. The decoder's table and the encoder's table, each against the other: one lemma for each direction, and
what follows for the length of an instruction. -/

namespace Sys2Proof

/-- An instruction is 1, 2 or 3 bytes long (R80). -/
theorem Instr.length_cases (i : Instr) : i.length = 1 ∨ i.length = 2 ∨ i.length = 3 := by
  unfold Instr.length; generalize i.mode = md; cases md <;> simp [Mode.length]

/-- The row an instruction's own opcode and operand bytes select is that instruction, whatever bytes follow (R82). -/
theorem decodeInstr_opcode (i : Instr) (c1 c2 : Byte) :
    decodeInstr i.opcode (i.operand.bytes.getD 0 c1) (i.operand.bytes.getD 1 c2) = some i := by
  cases i
  case ldaAbs w | ldaAbsx w | ldaAbsy w | ldxAbs w | ldxAbsy w | ldyAbs w | ldyAbsx w | staAbs w | staAbsx w | staAbsy w |
    stxAbs w | styAbs w | adcAbs w | adcAbsx w | adcAbsy w | sbcAbs w | sbcAbsx w | sbcAbsy w | cmpAbs w | cmpAbsx w | cmpAbsy w |
    cpxAbs w | cpyAbs w | andAbs w | andAbsx w | andAbsy w | oraAbs w | oraAbsx w | oraAbsy w | eorAbs w | eorAbsx w | eorAbsy w |
    bitAbs w | aslAbs w | aslAbsx w | lsrAbs w | lsrAbsx w | rolAbs w | rolAbsx w | rorAbs w | rorAbsx w | incAbs w | incAbsx w |
    decAbs w | decAbsx w | jmpAbs w | jmpInd w | jsr w =>
    obtain ⟨h, l, rfl⟩ : ∃ h l, w = hiLo h l := ⟨hiByte w, loByte w, by simp⟩
    simp only [Instr.opcode, Instr.operand, Instr.form, Operand.bytes, List.getD_cons_zero, List.getD_cons_succ,
      loByte_hiLo, hiByte_hiLo]
    rfl
  all_goals
    simp only [Instr.opcode, Instr.operand, Instr.form, Operand.bytes, List.getD_cons_zero, List.getD_nil]
    rfl

/-- The opcode alone settles the mnemonic and the mode: other operand bytes give the same row (R82). -/
theorem decodeInstr_sameRow (i : Instr) (c1 c2 : Byte) :
    ∃ j, decodeInstr i.opcode c1 c2 = some j ∧ j.mnemonic = i.mnemonic ∧ j.mode = i.mode := by
  cases i <;> simp only [Instr.opcode] <;> exact ⟨_, rfl, rfl, rfl⟩

/-- What the row `hi` of the map answers, at the column `lo`, for the bytes that follow the opcode (R80, R83). -/
def RowAnswers (hi lo : Nat) (b1 b2 : Byte) (i : Instr) : Prop :=
  i.opcode.toNat = 16 * hi + lo ∧ i.operand.bytes = [b1, b2].take (i.length - 1)

theorem mapRow0_answers {lo : Nat} {b1 b2 : Byte} {i : Instr} (h : mapRow0 lo b1 b2 = some i) :
    RowAnswers 0 lo b1 b2 i := by
  unfold mapRow0 at h
  split at h <;> first
    | (cases h; done)
    | (cases h; exact ⟨rfl, rfl⟩)
    | (cases h; exact ⟨rfl, by
        change [loByte (hiLo b2 b1), hiByte (hiLo b2 b1)] = [b1, b2]; rw [loByte_hiLo, hiByte_hiLo]⟩)

theorem mapRow1_answers {lo : Nat} {b1 b2 : Byte} {i : Instr} (h : mapRow1 lo b1 b2 = some i) :
    RowAnswers 1 lo b1 b2 i := by
  unfold mapRow1 at h
  split at h <;> first
    | (cases h; done)
    | (cases h; exact ⟨rfl, rfl⟩)
    | (cases h; exact ⟨rfl, by
        change [loByte (hiLo b2 b1), hiByte (hiLo b2 b1)] = [b1, b2]; rw [loByte_hiLo, hiByte_hiLo]⟩)

theorem mapRow2_answers {lo : Nat} {b1 b2 : Byte} {i : Instr} (h : mapRow2 lo b1 b2 = some i) :
    RowAnswers 2 lo b1 b2 i := by
  unfold mapRow2 at h
  split at h <;> first
    | (cases h; done)
    | (cases h; exact ⟨rfl, rfl⟩)
    | (cases h; exact ⟨rfl, by
        change [loByte (hiLo b2 b1), hiByte (hiLo b2 b1)] = [b1, b2]; rw [loByte_hiLo, hiByte_hiLo]⟩)

theorem mapRow3_answers {lo : Nat} {b1 b2 : Byte} {i : Instr} (h : mapRow3 lo b1 b2 = some i) :
    RowAnswers 3 lo b1 b2 i := by
  unfold mapRow3 at h
  split at h <;> first
    | (cases h; done)
    | (cases h; exact ⟨rfl, rfl⟩)
    | (cases h; exact ⟨rfl, by
        change [loByte (hiLo b2 b1), hiByte (hiLo b2 b1)] = [b1, b2]; rw [loByte_hiLo, hiByte_hiLo]⟩)

theorem mapRow4_answers {lo : Nat} {b1 b2 : Byte} {i : Instr} (h : mapRow4 lo b1 b2 = some i) :
    RowAnswers 4 lo b1 b2 i := by
  unfold mapRow4 at h
  split at h <;> first
    | (cases h; done)
    | (cases h; exact ⟨rfl, rfl⟩)
    | (cases h; exact ⟨rfl, by
        change [loByte (hiLo b2 b1), hiByte (hiLo b2 b1)] = [b1, b2]; rw [loByte_hiLo, hiByte_hiLo]⟩)

theorem mapRow5_answers {lo : Nat} {b1 b2 : Byte} {i : Instr} (h : mapRow5 lo b1 b2 = some i) :
    RowAnswers 5 lo b1 b2 i := by
  unfold mapRow5 at h
  split at h <;> first
    | (cases h; done)
    | (cases h; exact ⟨rfl, rfl⟩)
    | (cases h; exact ⟨rfl, by
        change [loByte (hiLo b2 b1), hiByte (hiLo b2 b1)] = [b1, b2]; rw [loByte_hiLo, hiByte_hiLo]⟩)

theorem mapRow6_answers {lo : Nat} {b1 b2 : Byte} {i : Instr} (h : mapRow6 lo b1 b2 = some i) :
    RowAnswers 6 lo b1 b2 i := by
  unfold mapRow6 at h
  split at h <;> first
    | (cases h; done)
    | (cases h; exact ⟨rfl, rfl⟩)
    | (cases h; exact ⟨rfl, by
        change [loByte (hiLo b2 b1), hiByte (hiLo b2 b1)] = [b1, b2]; rw [loByte_hiLo, hiByte_hiLo]⟩)

theorem mapRow7_answers {lo : Nat} {b1 b2 : Byte} {i : Instr} (h : mapRow7 lo b1 b2 = some i) :
    RowAnswers 7 lo b1 b2 i := by
  unfold mapRow7 at h
  split at h <;> first
    | (cases h; done)
    | (cases h; exact ⟨rfl, rfl⟩)
    | (cases h; exact ⟨rfl, by
        change [loByte (hiLo b2 b1), hiByte (hiLo b2 b1)] = [b1, b2]; rw [loByte_hiLo, hiByte_hiLo]⟩)

theorem mapRow8_answers {lo : Nat} {b1 b2 : Byte} {i : Instr} (h : mapRow8 lo b1 b2 = some i) :
    RowAnswers 8 lo b1 b2 i := by
  unfold mapRow8 at h
  split at h <;> first
    | (cases h; done)
    | (cases h; exact ⟨rfl, rfl⟩)
    | (cases h; exact ⟨rfl, by
        change [loByte (hiLo b2 b1), hiByte (hiLo b2 b1)] = [b1, b2]; rw [loByte_hiLo, hiByte_hiLo]⟩)

theorem mapRow9_answers {lo : Nat} {b1 b2 : Byte} {i : Instr} (h : mapRow9 lo b1 b2 = some i) :
    RowAnswers 9 lo b1 b2 i := by
  unfold mapRow9 at h
  split at h <;> first
    | (cases h; done)
    | (cases h; exact ⟨rfl, rfl⟩)
    | (cases h; exact ⟨rfl, by
        change [loByte (hiLo b2 b1), hiByte (hiLo b2 b1)] = [b1, b2]; rw [loByte_hiLo, hiByte_hiLo]⟩)

theorem mapRowA_answers {lo : Nat} {b1 b2 : Byte} {i : Instr} (h : mapRowA lo b1 b2 = some i) :
    RowAnswers 10 lo b1 b2 i := by
  unfold mapRowA at h
  split at h <;> first
    | (cases h; done)
    | (cases h; exact ⟨rfl, rfl⟩)
    | (cases h; exact ⟨rfl, by
        change [loByte (hiLo b2 b1), hiByte (hiLo b2 b1)] = [b1, b2]; rw [loByte_hiLo, hiByte_hiLo]⟩)

theorem mapRowB_answers {lo : Nat} {b1 b2 : Byte} {i : Instr} (h : mapRowB lo b1 b2 = some i) :
    RowAnswers 11 lo b1 b2 i := by
  unfold mapRowB at h
  split at h <;> first
    | (cases h; done)
    | (cases h; exact ⟨rfl, rfl⟩)
    | (cases h; exact ⟨rfl, by
        change [loByte (hiLo b2 b1), hiByte (hiLo b2 b1)] = [b1, b2]; rw [loByte_hiLo, hiByte_hiLo]⟩)

theorem mapRowC_answers {lo : Nat} {b1 b2 : Byte} {i : Instr} (h : mapRowC lo b1 b2 = some i) :
    RowAnswers 12 lo b1 b2 i := by
  unfold mapRowC at h
  split at h <;> first
    | (cases h; done)
    | (cases h; exact ⟨rfl, rfl⟩)
    | (cases h; exact ⟨rfl, by
        change [loByte (hiLo b2 b1), hiByte (hiLo b2 b1)] = [b1, b2]; rw [loByte_hiLo, hiByte_hiLo]⟩)

theorem mapRowD_answers {lo : Nat} {b1 b2 : Byte} {i : Instr} (h : mapRowD lo b1 b2 = some i) :
    RowAnswers 13 lo b1 b2 i := by
  unfold mapRowD at h
  split at h <;> first
    | (cases h; done)
    | (cases h; exact ⟨rfl, rfl⟩)
    | (cases h; exact ⟨rfl, by
        change [loByte (hiLo b2 b1), hiByte (hiLo b2 b1)] = [b1, b2]; rw [loByte_hiLo, hiByte_hiLo]⟩)

theorem mapRowE_answers {lo : Nat} {b1 b2 : Byte} {i : Instr} (h : mapRowE lo b1 b2 = some i) :
    RowAnswers 14 lo b1 b2 i := by
  unfold mapRowE at h
  split at h <;> first
    | (cases h; done)
    | (cases h; exact ⟨rfl, rfl⟩)
    | (cases h; exact ⟨rfl, by
        change [loByte (hiLo b2 b1), hiByte (hiLo b2 b1)] = [b1, b2]; rw [loByte_hiLo, hiByte_hiLo]⟩)

theorem mapRowF_answers {lo : Nat} {b1 b2 : Byte} {i : Instr} (h : mapRowF lo b1 b2 = some i) :
    RowAnswers 15 lo b1 b2 i := by
  unfold mapRowF at h
  split at h <;> first
    | (cases h; done)
    | (cases h; exact ⟨rfl, rfl⟩)
    | (cases h; exact ⟨rfl, by
        change [loByte (hiLo b2 b1), hiByte (hiLo b2 b1)] = [b1, b2]; rw [loByte_hiLo, hiByte_hiLo]⟩)

/-- A row that is selected has that opcode, and its operand bytes are the first ones given (R80, R83). -/
theorem decodeInstr_eq_some {op b1 b2 : Byte} {i : Instr} (h : decodeInstr op b1 b2 = some i) :
    i.opcode = op ∧ i.operand.bytes = [b1, b2].take (i.length - 1) := by
  have key : RowAnswers (op.toNat / 16) (op.toNat % 16) b1 b2 i := by
    unfold decodeInstr at h
    split at h
    case _ hr => rw [hr]; exact mapRow0_answers h
    case _ hr => rw [hr]; exact mapRow1_answers h
    case _ hr => rw [hr]; exact mapRow2_answers h
    case _ hr => rw [hr]; exact mapRow3_answers h
    case _ hr => rw [hr]; exact mapRow4_answers h
    case _ hr => rw [hr]; exact mapRow5_answers h
    case _ hr => rw [hr]; exact mapRow6_answers h
    case _ hr => rw [hr]; exact mapRow7_answers h
    case _ hr => rw [hr]; exact mapRow8_answers h
    case _ hr => rw [hr]; exact mapRow9_answers h
    case _ hr => rw [hr]; exact mapRowA_answers h
    case _ hr => rw [hr]; exact mapRowB_answers h
    case _ hr => rw [hr]; exact mapRowC_answers h
    case _ hr => rw [hr]; exact mapRowD_answers h
    case _ hr => rw [hr]; exact mapRowE_answers h
    case _ hr => rw [hr]; exact mapRowF_answers h
    all_goals cases h
  exact ⟨BitVec.eq_of_toNat_eq (by have := key.1; omega), key.2⟩

/-- Whether an opcode is unknown does not depend on the bytes after it (R82, R96). -/
theorem decodeInstr_eq_none {op b1 b2 : Byte} (c1 c2 : Byte) (h : decodeInstr op b1 b2 = none) :
    decodeInstr op c1 c2 = none := by
  cases h' : decodeInstr op c1 c2 with
  | none => rfl
  | some i =>
    obtain ⟨rfl, -⟩ := decodeInstr_eq_some h'
    obtain ⟨j, hj, -⟩ := decodeInstr_sameRow i b1 b2
    rw [h] at hj; cases hj

/-- The static length of a selected row's opcode is its instruction's (R81, R98). -/
theorem opcodeLength_eq {op b1 b2 : Byte} {i : Instr} (h : decodeInstr op b1 b2 = some i) :
    opcodeLength op = some i.length := by
  obtain ⟨rfl, -⟩ := decodeInstr_eq_some h
  obtain ⟨j, hj, -, hm⟩ := decodeInstr_sameRow i 0 0
  unfold opcodeLength
  rw [hj, Option.map_some, Instr.length, Instr.length, hm]

/-- What a fetched instruction decodes to: the bytes its length asks for are enough (R58, R98). -/
theorem decode_fetched {op b1 b2 : Byte} {i : Instr} (h : decodeInstr op b1 b2 = some i) :
    decode (op :: [b1, b2].take (i.length - 1)) = .ok (i, []) := by
  obtain ⟨rfl, hb⟩ := decodeInstr_eq_some h
  have h1 := decodeInstr_opcode i 0 0
  rw [hb] at h1
  rcases i.length_cases with hl | hl | hl <;> rw [hl] at h1 ⊢ <;> simp only [decode]
  all_goals simp at h1 ⊢; rw [h1]; simp [hl]

/-- As many operand bytes as the length leaves (R80, R81). -/
theorem Instr.operand_bytes_length (i : Instr) : i.operand.bytes.length = i.length - 1 := by
  cases i <;> rfl

end Sys2Proof
end

