-- ==== Sys2Proof/Laws/State.lean ====
section
/-! SUPPORT. One lemma per field per update of the state, and the normal form every other update has in terms of
`setA` to `setRS` and `writeByte`. -/

namespace Sys2Proof.Machine

variable (s : State)

/-! ### setA -/

@[simp] theorem State.setA_a (v : Byte) : (s.setA v).a = v := rfl
@[simp] theorem State.setA_x (v : Byte) : (s.setA v).x = s.x := rfl
@[simp] theorem State.setA_y (v : Byte) : (s.setA v).y = s.y := rfl
@[simp] theorem State.setA_sp (v : Byte) : (s.setA v).sp = s.sp := rfl
@[simp] theorem State.setA_pc (v : Byte) : (s.setA v).pc = s.pc := rfl
@[simp] theorem State.setA_flags (v : Byte) : (s.setA v).flags = s.flags := rfl
@[simp] theorem State.setA_mem (v : Byte) : (s.setA v).mem = s.mem := rfl
@[simp] theorem State.setA_randCell (v : Byte) : (s.setA v).randCell = s.randCell := rfl
@[simp] theorem State.setA_keyCell (v : Byte) : (s.setA v).keyCell = s.keyCell := rfl
@[simp] theorem State.setA_rs (v : Byte) : (s.setA v).rs = s.rs := rfl
@[simp] theorem State.setA_ticks (v : Byte) : (s.setA v).ticks = s.ticks := rfl
@[simp] theorem State.setA_cfg (v : Byte) : (s.setA v).cfg = s.cfg := rfl
@[simp] theorem State.readByte_setA (v : Byte) (k : Addr) : (s.setA v).readByte k = s.readByte k := rfl

/-! ### setX -/

@[simp] theorem State.setX_a (v : Byte) : (s.setX v).a = s.a := rfl
@[simp] theorem State.setX_x (v : Byte) : (s.setX v).x = v := rfl
@[simp] theorem State.setX_y (v : Byte) : (s.setX v).y = s.y := rfl
@[simp] theorem State.setX_sp (v : Byte) : (s.setX v).sp = s.sp := rfl
@[simp] theorem State.setX_pc (v : Byte) : (s.setX v).pc = s.pc := rfl
@[simp] theorem State.setX_flags (v : Byte) : (s.setX v).flags = s.flags := rfl
@[simp] theorem State.setX_mem (v : Byte) : (s.setX v).mem = s.mem := rfl
@[simp] theorem State.setX_randCell (v : Byte) : (s.setX v).randCell = s.randCell := rfl
@[simp] theorem State.setX_keyCell (v : Byte) : (s.setX v).keyCell = s.keyCell := rfl
@[simp] theorem State.setX_rs (v : Byte) : (s.setX v).rs = s.rs := rfl
@[simp] theorem State.setX_ticks (v : Byte) : (s.setX v).ticks = s.ticks := rfl
@[simp] theorem State.setX_cfg (v : Byte) : (s.setX v).cfg = s.cfg := rfl
@[simp] theorem State.readByte_setX (v : Byte) (k : Addr) : (s.setX v).readByte k = s.readByte k := rfl

/-! ### setY -/

@[simp] theorem State.setY_a (v : Byte) : (s.setY v).a = s.a := rfl
@[simp] theorem State.setY_x (v : Byte) : (s.setY v).x = s.x := rfl
@[simp] theorem State.setY_y (v : Byte) : (s.setY v).y = v := rfl
@[simp] theorem State.setY_sp (v : Byte) : (s.setY v).sp = s.sp := rfl
@[simp] theorem State.setY_pc (v : Byte) : (s.setY v).pc = s.pc := rfl
@[simp] theorem State.setY_flags (v : Byte) : (s.setY v).flags = s.flags := rfl
@[simp] theorem State.setY_mem (v : Byte) : (s.setY v).mem = s.mem := rfl
@[simp] theorem State.setY_randCell (v : Byte) : (s.setY v).randCell = s.randCell := rfl
@[simp] theorem State.setY_keyCell (v : Byte) : (s.setY v).keyCell = s.keyCell := rfl
@[simp] theorem State.setY_rs (v : Byte) : (s.setY v).rs = s.rs := rfl
@[simp] theorem State.setY_ticks (v : Byte) : (s.setY v).ticks = s.ticks := rfl
@[simp] theorem State.setY_cfg (v : Byte) : (s.setY v).cfg = s.cfg := rfl
@[simp] theorem State.readByte_setY (v : Byte) (k : Addr) : (s.setY v).readByte k = s.readByte k := rfl

/-! ### setSP -/

@[simp] theorem State.setSP_a (v : Byte) : (s.setSP v).a = s.a := rfl
@[simp] theorem State.setSP_x (v : Byte) : (s.setSP v).x = s.x := rfl
@[simp] theorem State.setSP_y (v : Byte) : (s.setSP v).y = s.y := rfl
@[simp] theorem State.setSP_sp (v : Byte) : (s.setSP v).sp = v := rfl
@[simp] theorem State.setSP_pc (v : Byte) : (s.setSP v).pc = s.pc := rfl
@[simp] theorem State.setSP_flags (v : Byte) : (s.setSP v).flags = s.flags := rfl
@[simp] theorem State.setSP_mem (v : Byte) : (s.setSP v).mem = s.mem := rfl
@[simp] theorem State.setSP_randCell (v : Byte) : (s.setSP v).randCell = s.randCell := rfl
@[simp] theorem State.setSP_keyCell (v : Byte) : (s.setSP v).keyCell = s.keyCell := rfl
@[simp] theorem State.setSP_rs (v : Byte) : (s.setSP v).rs = s.rs := rfl
@[simp] theorem State.setSP_ticks (v : Byte) : (s.setSP v).ticks = s.ticks := rfl
@[simp] theorem State.setSP_cfg (v : Byte) : (s.setSP v).cfg = s.cfg := rfl
@[simp] theorem State.readByte_setSP (v : Byte) (k : Addr) : (s.setSP v).readByte k = s.readByte k := rfl

/-! ### setPC -/

@[simp] theorem State.setPC_a (w : Addr) : (s.setPC w).a = s.a := rfl
@[simp] theorem State.setPC_x (w : Addr) : (s.setPC w).x = s.x := rfl
@[simp] theorem State.setPC_y (w : Addr) : (s.setPC w).y = s.y := rfl
@[simp] theorem State.setPC_sp (w : Addr) : (s.setPC w).sp = s.sp := rfl
@[simp] theorem State.setPC_pc (w : Addr) : (s.setPC w).pc = w := rfl
@[simp] theorem State.setPC_flags (w : Addr) : (s.setPC w).flags = s.flags := rfl
@[simp] theorem State.setPC_mem (w : Addr) : (s.setPC w).mem = s.mem := rfl
@[simp] theorem State.setPC_randCell (w : Addr) : (s.setPC w).randCell = s.randCell := rfl
@[simp] theorem State.setPC_keyCell (w : Addr) : (s.setPC w).keyCell = s.keyCell := rfl
@[simp] theorem State.setPC_rs (w : Addr) : (s.setPC w).rs = s.rs := rfl
@[simp] theorem State.setPC_ticks (w : Addr) : (s.setPC w).ticks = s.ticks := rfl
@[simp] theorem State.setPC_cfg (w : Addr) : (s.setPC w).cfg = s.cfg := rfl
@[simp] theorem State.readByte_setPC (w : Addr) (k : Addr) : (s.setPC w).readByte k = s.readByte k := rfl

/-! ### setFlags -/

@[simp] theorem State.setFlags_a (f : Flags) : (s.setFlags f).a = s.a := rfl
@[simp] theorem State.setFlags_x (f : Flags) : (s.setFlags f).x = s.x := rfl
@[simp] theorem State.setFlags_y (f : Flags) : (s.setFlags f).y = s.y := rfl
@[simp] theorem State.setFlags_sp (f : Flags) : (s.setFlags f).sp = s.sp := rfl
@[simp] theorem State.setFlags_pc (f : Flags) : (s.setFlags f).pc = s.pc := rfl
@[simp] theorem State.setFlags_flags (f : Flags) : (s.setFlags f).flags = f := rfl
@[simp] theorem State.setFlags_mem (f : Flags) : (s.setFlags f).mem = s.mem := rfl
@[simp] theorem State.setFlags_randCell (f : Flags) : (s.setFlags f).randCell = s.randCell := rfl
@[simp] theorem State.setFlags_keyCell (f : Flags) : (s.setFlags f).keyCell = s.keyCell := rfl
@[simp] theorem State.setFlags_rs (f : Flags) : (s.setFlags f).rs = s.rs := rfl
@[simp] theorem State.setFlags_ticks (f : Flags) : (s.setFlags f).ticks = s.ticks := rfl
@[simp] theorem State.setFlags_cfg (f : Flags) : (s.setFlags f).cfg = s.cfg := rfl
@[simp] theorem State.readByte_setFlags (f : Flags) (k : Addr) : (s.setFlags f).readByte k = s.readByte k := rfl

/-! ### setRS -/

@[simp] theorem State.setRS_a (r : RunState) : (s.setRS r).a = s.a := rfl
@[simp] theorem State.setRS_x (r : RunState) : (s.setRS r).x = s.x := rfl
@[simp] theorem State.setRS_y (r : RunState) : (s.setRS r).y = s.y := rfl
@[simp] theorem State.setRS_sp (r : RunState) : (s.setRS r).sp = s.sp := rfl
@[simp] theorem State.setRS_pc (r : RunState) : (s.setRS r).pc = s.pc := rfl
@[simp] theorem State.setRS_flags (r : RunState) : (s.setRS r).flags = s.flags := rfl
@[simp] theorem State.setRS_mem (r : RunState) : (s.setRS r).mem = s.mem := rfl
@[simp] theorem State.setRS_randCell (r : RunState) : (s.setRS r).randCell = s.randCell := rfl
@[simp] theorem State.setRS_keyCell (r : RunState) : (s.setRS r).keyCell = s.keyCell := rfl
@[simp] theorem State.setRS_rs (r : RunState) : (s.setRS r).rs = r := rfl
@[simp] theorem State.setRS_ticks (r : RunState) : (s.setRS r).ticks = s.ticks := rfl
@[simp] theorem State.setRS_cfg (r : RunState) : (s.setRS r).cfg = s.cfg := rfl
@[simp] theorem State.readByte_setRS (r : RunState) (k : Addr) : (s.setRS r).readByte k = s.readByte k := rfl

/-! ### writeByte -/

@[simp] theorem State.writeByte_a (k : Addr) (v : Byte) : (s.writeByte k v).a = s.a := rfl
@[simp] theorem State.writeByte_x (k : Addr) (v : Byte) : (s.writeByte k v).x = s.x := rfl
@[simp] theorem State.writeByte_y (k : Addr) (v : Byte) : (s.writeByte k v).y = s.y := rfl
@[simp] theorem State.writeByte_sp (k : Addr) (v : Byte) : (s.writeByte k v).sp = s.sp := rfl
@[simp] theorem State.writeByte_pc (k : Addr) (v : Byte) : (s.writeByte k v).pc = s.pc := rfl
@[simp] theorem State.writeByte_flags (k : Addr) (v : Byte) : (s.writeByte k v).flags = s.flags := rfl
@[simp] theorem State.writeByte_rs (k : Addr) (v : Byte) : (s.writeByte k v).rs = s.rs := rfl
@[simp] theorem State.writeByte_ticks (k : Addr) (v : Byte) : (s.writeByte k v).ticks = s.ticks := rfl
@[simp] theorem State.writeByte_cfg (k : Addr) (v : Byte) : (s.writeByte k v).cfg = s.cfg := rfl
theorem State.writeByte_setA (v : Byte) (k : Addr) (b : Byte) :
    (s.setA v).writeByte k b = (s.writeByte k b).setA v := rfl
theorem State.writeByte_setX (v : Byte) (k : Addr) (b : Byte) :
    (s.setX v).writeByte k b = (s.writeByte k b).setX v := rfl
theorem State.writeByte_setY (v : Byte) (k : Addr) (b : Byte) :
    (s.setY v).writeByte k b = (s.writeByte k b).setY v := rfl
theorem State.writeByte_setSP (v : Byte) (k : Addr) (b : Byte) :
    (s.setSP v).writeByte k b = (s.writeByte k b).setSP v := rfl
theorem State.writeByte_setPC (w : Addr) (k : Addr) (b : Byte) :
    (s.setPC w).writeByte k b = (s.writeByte k b).setPC w := rfl
theorem State.writeByte_setFlags (f : Flags) (k : Addr) (b : Byte) :
    (s.setFlags f).writeByte k b = (s.writeByte k b).setFlags f := rfl
theorem State.writeByte_setRS (r : RunState) (k : Addr) (b : Byte) :
    (s.setRS r).writeByte k b = (s.writeByte k b).setRS r := rfl

/-! ### The other updates, in normal form -/

@[simp] theorem State.advance_eq (len : Nat) : s.advance len = s.setPC (s.pc + BitVec.ofNat 16 len) := rfl
@[simp] theorem State.setNZ_eq (v : Byte) : s.setNZ v = s.setFlags (s.flags.setNZ v) := rfl
@[simp] theorem State.setC_eq (c : Bool) : s.setC c = s.setFlags { s.flags with c := c } := rfl
@[simp] theorem State.setV_eq (v : Bool) : s.setV v = s.setFlags { s.flags with v := v } := rfl
@[simp] theorem State.setN_eq (n : Bool) : s.setN n = s.setFlags { s.flags with n := n } := rfl
@[simp] theorem State.setZ_eq (z : Bool) : s.setZ z = s.setFlags { s.flags with z := z } := rfl
@[simp] theorem State.setB_eq (b : Bool) : s.setB b = s.setFlags { s.flags with b := b } := rfl
@[simp] theorem State.setD_eq (d : Bool) : s.setD d = s.setFlags { s.flags with d := d } := rfl
@[simp] theorem State.setI_eq (i : Bool) : s.setI i = s.setFlags { s.flags with i := i } := rfl
@[simp] theorem State.setSum_eq (t : AluResult) :
    s.setSum t = (s.setA t.r).setFlags (Flags.setNZ { s.flags with c := t.c, v := t.v } t.r) := rfl
@[simp] theorem State.compareCore_eq (r m : Byte) :
    s.compareCore r m = s.setFlags (Flags.setNZ { s.flags with c := decide (m ≤ r) } (r - m)) := rfl
@[simp] theorem State.halt_eq : s.halt = s.setRS .halted := rfl
@[simp] theorem State.pulled_eq : s.pulled = s.setSP (s.sp + 1#8) := rfl
@[simp] theorem State.push_eq (v : Byte) :
    s.push v = (s.writeByte (stackAddr s.sp) v).setSP (s.sp - 1#8) := rfl

/-! ### The fields at the start of a step -/

@[simp] theorem beginCycle_a (r : Byte) (k : Option Byte) : (beginCycle r k s).a = s.a := rfl
@[simp] theorem beginCycle_x (r : Byte) (k : Option Byte) : (beginCycle r k s).x = s.x := rfl
@[simp] theorem beginCycle_y (r : Byte) (k : Option Byte) : (beginCycle r k s).y = s.y := rfl
@[simp] theorem beginCycle_sp (r : Byte) (k : Option Byte) : (beginCycle r k s).sp = s.sp := rfl
@[simp] theorem beginCycle_pc (r : Byte) (k : Option Byte) : (beginCycle r k s).pc = s.pc := rfl
@[simp] theorem beginCycle_flags (r : Byte) (k : Option Byte) : (beginCycle r k s).flags = s.flags := rfl
@[simp] theorem beginCycle_mem (r : Byte) (k : Option Byte) : (beginCycle r k s).mem = s.mem := rfl
@[simp] theorem beginCycle_randCell (r : Byte) (k : Option Byte) : (beginCycle r k s).randCell = r := rfl
@[simp] theorem beginCycle_keyCell (r : Byte) (k : Option Byte) : (beginCycle r k s).keyCell = k.getD s.keyCell := rfl
@[simp] theorem beginCycle_rs (r : Byte) (k : Option Byte) : (beginCycle r k s).rs = s.rs := rfl
@[simp] theorem beginCycle_ticks (r : Byte) (k : Option Byte) : (beginCycle r k s).ticks = s.ticks + 1 := rfl
@[simp] theorem beginCycle_cfg (r : Byte) (k : Option Byte) : (beginCycle r k s).cfg = s.cfg := rfl

end Sys2Proof.Machine
end

