-- ==== Sys2Proof/Laws/Flags.lean ====
section
/-! SUPPORT. The laws of the flag computations: the packed status byte, and the fields SetNZ leaves. -/

namespace Sys2Proof.Machine

@[simp] theorem Flags.setNZ_v (f : Flags) (v : Byte) : (f.setNZ v).v = f.v := rfl
@[simp] theorem Flags.setNZ_b (f : Flags) (v : Byte) : (f.setNZ v).b = f.b := rfl
@[simp] theorem Flags.setNZ_d (f : Flags) (v : Byte) : (f.setNZ v).d = f.d := rfl
@[simp] theorem Flags.setNZ_i (f : Flags) (v : Byte) : (f.setNZ v).i = f.i := rfl
@[simp] theorem Flags.setNZ_c (f : Flags) (v : Byte) : (f.setNZ v).c = f.c := rfl
@[simp] theorem Flags.setNZ_n (f : Flags) (v : Byte) : (f.setNZ v).n = v.getLsbD 7 := rfl
@[simp] theorem Flags.setNZ_z (f : Flags) (v : Byte) : (f.setNZ v).z = decide (v = 0#8) := rfl

/-- PLP's reading of what PHP wrote (R35, R36). -/
@[simp] theorem Flags.unpack_pack (f : Flags) : Flags.unpack f.pack = f := by
  obtain ⟨n, v, b, d, i, z, c⟩ := f
  cases n <;> cases v <;> cases b <;> cases d <;> cases i <;> cases z <;> cases c <;> rfl

/-- The bits of `Pack()` (R35), with bit 5 forced to 1. -/
theorem Flags.pack_bits (f : Flags) :
    f.pack.getLsbD 7 = f.n ∧ f.pack.getLsbD 6 = f.v ∧ f.pack.getLsbD 5 = true ∧ f.pack.getLsbD 4 = f.b ∧
    f.pack.getLsbD 3 = f.d ∧ f.pack.getLsbD 2 = f.i ∧ f.pack.getLsbD 1 = f.z ∧ f.pack.getLsbD 0 = f.c := by
  obtain ⟨n, v, b, d, i, z, c⟩ := f
  cases n <;> cases v <;> cases b <;> cases d <;> cases i <;> cases z <;> cases c <;> decide

end Sys2Proof.Machine
end

