-- ==== Sys2Proof/Laws/Memory.lean ====
section
/-! SUPPORT. The laws of the memory list and of the byte-wide port: read after write, the canonical form kept. -/

namespace Sys2Proof.Machine

theorem Memory.read_insert_same (a : Nat) (v : Byte) (m : Memory) : (Memory.insert a v m).read a = v := by
  induction m with
  | nil => simp [Memory.insert, Memory.read]
  | cons p m ih =>
    obtain ⟨k, w⟩ := p
    unfold Memory.insert
    split
    · simp [Memory.read]
    · split
      · simp [Memory.read]
      · rename_i h; simp [Memory.read, h, ih]

theorem Memory.read_insert_other {a b : Nat} (h : b ≠ a) (v : Byte) (m : Memory) :
    (Memory.insert a v m).read b = m.read b := by
  induction m with
  | nil => simp [Memory.insert, Memory.read, h]
  | cons p m ih =>
    obtain ⟨k, w⟩ := p
    unfold Memory.insert
    split
    · simp [Memory.read, h]
    · split
      · rename_i hk; subst hk; simp [Memory.read, h]
      · simp [Memory.read, ih]

theorem Memory.read_erase_same (a : Nat) (m : Memory) : (Memory.erase a m).read a = Memory.unlisted := by
  induction m with
  | nil => rfl
  | cons p m ih =>
    obtain ⟨k, w⟩ := p
    unfold Memory.erase
    split
    · exact ih
    · rename_i h; simp [Memory.read, h, ih]

theorem Memory.read_erase_other {a b : Nat} (h : b ≠ a) (m : Memory) : (Memory.erase a m).read b = m.read b := by
  induction m with
  | nil => rfl
  | cons p m ih =>
    obtain ⟨k, w⟩ := p
    unfold Memory.erase
    split
    · rename_i hk; subst hk; simp [Memory.read, h, ih]
    · simp [Memory.read, ih]

/-- The list reads back the byte written. -/
theorem Memory.read_write_same (m : Memory) (a : Nat) (v : Byte) : (m.write a v).read a = v := by
  unfold Memory.write
  split
  · rename_i h; rw [Memory.read_erase_same, h]
  · exact Memory.read_insert_same a v m

/-- A write leaves every other address of the list. -/
theorem Memory.read_write_other {a b : Nat} (h : b ≠ a) (m : Memory) (v : Byte) :
    (m.write a v).read b = m.read b := by
  unfold Memory.write
  split
  · exact Memory.read_erase_other h m
  · exact Memory.read_insert_other h v m

theorem Memory.mem_insert {a : Nat} {v : Byte} {m : Memory} {p : Host.Cell} (h : p ∈ Memory.insert a v m) :
    p = (a, v) ∨ p ∈ m := by
  induction m with
  | nil => simpa [Memory.insert] using h
  | cons q m ih =>
    unfold Memory.insert at h
    split at h
    · simpa using h
    · split at h
      · rcases List.mem_cons.1 h with h | h
        · exact .inl h
        · exact .inr (List.mem_cons_of_mem _ h)
      · rcases List.mem_cons.1 h with h | h
        · exact .inr (h ▸ List.mem_cons_self)
        · exact (ih h).imp id (List.mem_cons_of_mem _)

theorem Memory.mem_erase {a : Nat} {m : Memory} {p : Host.Cell} (h : p ∈ Memory.erase a m) : p ∈ m := by
  induction m with
  | nil => simp [Memory.erase] at h
  | cons q m ih =>
    unfold Memory.erase at h
    split at h
    · exact List.mem_cons_of_mem _ (ih h)
    · rcases List.mem_cons.1 h with h | h
      · exact h ▸ List.mem_cons_self
      · exact List.mem_cons_of_mem _ (ih h)

/-- What a written list holds: what was there, and possibly the byte written. -/
theorem Memory.mem_write {a : Nat} {v : Byte} {m : Memory} {p : Host.Cell} (h : p ∈ m.write a v) :
    p ∈ m ∨ p = (a, v) ∧ v ≠ Memory.unlisted := by
  unfold Memory.write at h
  split at h
  · exact .inl (Memory.mem_erase h)
  · rename_i hv; exact (Memory.mem_insert h).elim (fun e => .inr ⟨e, hv⟩) .inl

theorem Memory.insert_rising {a : Nat} {v : Byte} {m : Memory} (h : m.Pairwise fun p q => p.1 < q.1) :
    (Memory.insert a v m).Pairwise fun p q => p.1 < q.1 := by
  induction m with
  | nil => simp [Memory.insert]
  | cons q m ih =>
    obtain ⟨k, w⟩ := q
    obtain ⟨hk, hm⟩ := List.pairwise_cons.1 h
    unfold Memory.insert
    split
    · rename_i hlt
      refine List.pairwise_cons.2 ⟨fun p hp => ?_, h⟩
      rcases List.mem_cons.1 hp with rfl | hp
      · exact hlt
      · exact Nat.lt_trans hlt (hk p hp)
    · split
      · rename_i heq; subst heq; exact List.pairwise_cons.2 ⟨hk, hm⟩
      · refine List.pairwise_cons.2 ⟨fun p hp => ?_, ih hm⟩
        rcases Memory.mem_insert hp with rfl | hp
        · show k < a; omega
        · exact hk p hp

theorem Memory.erase_rising {a : Nat} {m : Memory} (h : m.Pairwise fun p q => p.1 < q.1) :
    (Memory.erase a m).Pairwise fun p q => p.1 < q.1 := by
  induction m with
  | nil => simp [Memory.erase]
  | cons q m ih =>
    obtain ⟨hk, hm⟩ := List.pairwise_cons.1 h
    unfold Memory.erase
    split
    · exact ih hm
    · exact List.pairwise_cons.2 ⟨fun p hp => hk p (Memory.mem_erase hp), ih hm⟩

/-- A write within the address space keeps the canonical form. -/
theorem Memory.wf_write {m : Memory} (h : m.wf) {a : Nat} (ha : a < 0x10000) (v : Byte) : (m.write a v).wf := by
  refine ⟨?_, fun p hp => ?_⟩
  · unfold Memory.write
    split
    · exact Memory.erase_rising h.1
    · exact Memory.insert_rising h.1
  · rcases Memory.mem_write hp with hp | ⟨rfl, hv⟩
    · exact h.2 p hp
    · exact ⟨ha, hv⟩

/-- The empty list is canonical. -/
theorem Memory.wf_nil : Memory.wf [] := ⟨List.Pairwise.nil, by simp⟩

/-! ### The port -/

variable (s : State)

/-- The port reads back the byte written, at every address. -/
@[simp] theorem State.readByte_writeByte_same (a : Addr) (v : Byte) : (s.writeByte a v).readByte a = v := by
  simp only [State.readByte, State.writeByte]
  by_cases hr : a = s.cfg.randAddr
  · simp [hr]
  · by_cases hk : a = s.cfg.keyAddr
    · subst hk; simp [hr]
    · simp [hr, hk, Memory.read_write_same]

/-- A write leaves every other address. -/
theorem State.readByte_writeByte_other {a b : Addr} (h : b ≠ a) (v : Byte) :
    (s.writeByte a v).readByte b = s.readByte b := by
  have hn : b.toNat ≠ a.toNat := fun e => h (BitVec.eq_of_toNat_eq e)
  simp only [State.readByte, State.writeByte]
  by_cases hr : b = s.cfg.randAddr
  · subst hr; simp [Ne.symm h]
  · by_cases hk : b = s.cfg.keyAddr
    · subst hk; simp [hr, Ne.symm h]
    · simp only [hr, hk, if_false]
      split
      · rfl
      · exact Memory.read_write_other hn _ _

/-- A write keeps the state well formed. -/
theorem State.wf_writeByte {s : State} (h : s.wf) (a : Addr) (v : Byte) : (s.writeByte a v).wf := by
  by_cases hc : a = s.cfg.randAddr ∨ a = s.cfg.keyAddr
  · simpa [State.wf, State.writeByte, hc] using h
  · have hm : (s.writeByte a v).mem = s.mem.write a.toNat v := if_neg hc
    refine ⟨hm ▸ Memory.wf_write h.1 a.isLt v, fun p hp => ?_, h.2.2⟩
    rcases Memory.mem_write (hm ▸ hp) with hp | ⟨rfl, -⟩
    · exact h.2.1 p hp
    · exact ⟨fun e => hc (.inl (BitVec.eq_of_toNat_eq e)), fun e => hc (.inr (BitVec.eq_of_toNat_eq e))⟩

/-- At the start of a step the random cell reads the draw. -/
theorem readByte_beginCycle_rand (r : Byte) (k : Option Byte) :
    (beginCycle r k s).readByte s.cfg.randAddr = r := by
  simp [State.readByte]

/-- The start of a step changes no byte but the two cells. -/
theorem readByte_beginCycle_other (r : Byte) (k : Option Byte) {a : Addr} (hr : a ≠ s.cfg.randAddr)
    (hk : a ≠ s.cfg.keyAddr) : (beginCycle r k s).readByte a = s.readByte a := by
  simp [State.readByte, hr, hk]

end Sys2Proof.Machine
end

