-- ==== Sys2Proof/Laws/Operands.lean ====
section
/-! SUPPORT. What the operand forms and the stack depend on, and the stack as pushes and pulls. -/

namespace Sys2Proof.Machine

/-- An effective address depends on X, Y, the parameters and memory alone. -/
theorem effAddr_congr (m : MemOperand) {s t : State} (hx : t.x = s.x) (hy : t.y = s.y) (hc : t.cfg = s.cfg)
    (hm : ∀ a, t.readByte a = s.readByte a) : effAddr m t = effAddr m s := by
  cases m <;> simp [effAddr, State.zpPointer, State.readPair, hx, hy, hc, hm]

/-- An operand depends on A, X, Y, the parameters and memory alone. -/
theorem operandValue_congr (d : DataOperand) {s t : State} (ha : t.a = s.a) (hx : t.x = s.x) (hy : t.y = s.y)
    (hc : t.cfg = s.cfg) (hm : ∀ a, t.readByte a = s.readByte a) : operandValue d t = operandValue d s := by
  cases d with
  | acc => exact ha
  | imm b1 => rfl
  | mem m => simp only [operandValue, effAddr_congr m hx hy hc hm, hm]

/-- The stack byte SP designates lies in the stack page (R24). -/
theorem toNat_stackAddr (sp : Byte) : (stackAddr sp).toNat = 0x0100 + sp.toNat := by
  have := sp.isLt
  simp only [stackAddr, BitVec.toNat_add, toNat_zext16]
  have h : (0x0100#16).toNat = 256 := rfl
  omega

theorem stackAddr_inj {p q : Byte} (h : stackAddr p = stackAddr q) : p = q := by
  have h := congrArg BitVec.toNat h
  rw [toNat_stackAddr, toNat_stackAddr] at h
  exact BitVec.eq_of_toNat_eq (by omega)

/-- Pulling after a push gives the byte pushed (R220). -/
theorem State.pullByte_push (s : State) (v : Byte) : (s.push v).pullByte = v := by
  have h : s.sp - 1#8 + 1#8 = s.sp := BitVec.sub_add_cancel _ _
  simp [State.pullByte, h]

end Sys2Proof.Machine
end

