-- ==== Sys2Proof/Laws/Exec.lean ====
section
/-! SUPPORT. What running an instruction can do, said once: it answers a next state, made from at most two byte
writes, with the parameters and the step counter left; and what a step can do, in terms of it. -/

namespace Sys2Proof.Machine

/-- Every instruction answers a next state (R262: none faults). -/
theorem exec_answers_next (i : Instr) (s : State) : ∃ t, exec i s = .next t := by
  cases i <;> exact ⟨_, rfl⟩

/-- `u` is `s` after none, one or two byte writes. -/
def AfterWrites (s u : State) : Prop :=
  u = s ∨ (∃ a v, u = s.writeByte a v) ∨ ∃ a v b w, u = (s.writeByte a v).writeByte b w

/-- The memory of `t` is that of `u`, and the parameters are `u`'s. -/
def SameMemory (t u : State) : Prop :=
  t.mem = u.mem ∧ t.randCell = u.randCell ∧ t.keyCell = u.keyCell ∧ t.cfg = u.cfg

theorem SameMemory.readByte {t u : State} (h : SameMemory t u) (a : Addr) : t.readByte a = u.readByte a := by
  obtain ⟨hm, hr, hk, hc⟩ := h
  simp [State.readByte, hm, hr, hk, hc]

theorem SameMemory.wf {t u : State} (h : SameMemory t u) (hu : u.wf) : t.wf := by
  obtain ⟨hm, -, -, hc⟩ := h
  simpa [State.wf, hm, hc] using hu

theorem AfterWrites.wf {s u : State} (h : AfterWrites s u) (hs : s.wf) : u.wf := by
  rcases h with rfl | ⟨a, v, rfl⟩ | ⟨a, v, b, w, rfl⟩
  · exact hs
  · exact State.wf_writeByte hs a v
  · exact State.wf_writeByte (State.wf_writeByte hs a v) b w

theorem AfterWrites.cfg {s u : State} (h : AfterWrites s u) : u.cfg = s.cfg := by
  rcases h with rfl | ⟨a, v, rfl⟩ | ⟨a, v, b, w, rfl⟩ <;> simp

theorem State.haltIfB_sameMemory (s : State) : SameMemory s.haltIfB s := by
  unfold State.haltIfB; split <;> exact ⟨rfl, rfl, rfl, rfl⟩

theorem State.haltIfB_ticks (s : State) : s.haltIfB.ticks = s.ticks := by
  unfold State.haltIfB; split <;> rfl

/-- What an instruction can do to memory and to the model's own fields. -/
def MemoryEffect (s t : State) : Prop := ∃ u, AfterWrites s u ∧ SameMemory t u ∧ t.ticks = s.ticks

/-- An instruction that stores nothing: memory, the cells, the parameters and the step counter are left. -/
def KeepsMemory (s t : State) : Prop := SameMemory t s ∧ t.ticks = s.ticks

theorem MemoryEffect.none {s t : State} (h : KeepsMemory s t) : MemoryEffect s t :=
  ⟨s, .inl rfl, h.1, h.2⟩

theorem MemoryEffect.one {s t : State} (a : Addr) (v : Byte) (h : SameMemory t (s.writeByte a v))
    (ht : t.ticks = s.ticks) : MemoryEffect s t :=
  ⟨_, .inr (.inl ⟨a, v, rfl⟩), h, ht⟩

section SharedOperations

variable {s t : State} {d : DataOperand} {m : MemOperand} {v : Byte} {c : Bool}
  {f : Byte → Bool → ShiftResult}

theorem lda_keeps (h : lda d s = .next t) : KeepsMemory s t := by
  cases h; exact ⟨by simp [SameMemory], by simp⟩

theorem ldx_keeps (h : ldx d s = .next t) : KeepsMemory s t := by
  cases h; exact ⟨by simp [SameMemory], by simp⟩

theorem ldy_keeps (h : ldy d s = .next t) : KeepsMemory s t := by
  cases h; exact ⟨by simp [SameMemory], by simp⟩

theorem adc_keeps (h : adc d s = .next t) : KeepsMemory s t := by
  cases h; exact ⟨by simp [SameMemory], by simp⟩

theorem sbc_keeps (h : sbc d s = .next t) : KeepsMemory s t := by
  cases h; exact ⟨by simp [SameMemory], by simp⟩

theorem compareReg_keeps (h : compareReg v d s = .next t) : KeepsMemory s t := by
  cases h; exact ⟨by simp [SameMemory], by simp⟩

theorem logicResult_keeps (h : logicResult v d s = .next t) : KeepsMemory s t := by
  cases h; exact ⟨by simp [SameMemory], by simp⟩

theorem bitTest_keeps (h : bitTest m s = .next t) : KeepsMemory s t := by
  cases h; exact ⟨by simp [SameMemory], by simp⟩

theorem shiftAcc_keeps (h : shiftAcc f s = .next t) : KeepsMemory s t := by
  cases h; exact ⟨by simp [SameMemory], by simp⟩

theorem branch_keeps (h : branch c v s = .next t) : KeepsMemory s t := by
  cases c <;> cases h <;> exact ⟨by simp [SameMemory], by simp⟩

/-- A store leaves the memory written at the effective address taken before it (R143). -/
theorem store_stores (h : store m v s = .next t) : SameMemory t (s.writeByte (effAddr m s) v) := by
  cases h; simp [SameMemory]

/-- INC and DEC write at the effective address they read (R60, R200). -/
theorem stepMem_stores (h : stepMem v m s = .next t) : ∃ r, SameMemory t (s.writeByte (effAddr m s) r) := by
  cases h; exact ⟨s.readByte (effAddr m s) + v, by simp [SameMemory]⟩

/-- A shift of memory writes at the effective address it reads (R60, R190). -/
theorem shiftMem_stores (h : shiftMem f m s = .next t) : ∃ r, SameMemory t (s.writeByte (effAddr m s) r) := by
  cases h
  exact ⟨(f (s.readByte (effAddr m s)) s.flags.c).r, by simp [SameMemory, State.writeByte_setFlags]⟩

theorem store_memory (h : store m v s = .next t) : MemoryEffect s t :=
  .one _ _ (store_stores h) (by cases h; simp)

theorem stepMem_memory (h : stepMem v m s = .next t) : MemoryEffect s t :=
  .one _ _ (stepMem_stores h).choose_spec (by cases h; simp)

theorem shiftMem_memory (h : shiftMem f m s = .next t) : MemoryEffect s t :=
  .one _ _ (shiftMem_stores h).choose_spec (by cases h; simp)

end SharedOperations

/-- What memory and the model's own fields can become in an instruction. -/
theorem exec_memory {i : Instr} {s t : State} (h : exec i s = .next t) : MemoryEffect s t := by
  cases i
  case ldaImm | ldaZp | ldaZpx | ldaAbs | ldaAbsx | ldaAbsy | ldaIndx | ldaIndy =>
    exact .none (lda_keeps h)
  case ldxImm | ldxZp | ldxZpy | ldxAbs | ldxAbsy =>
    exact .none (ldx_keeps h)
  case ldyImm | ldyZp | ldyZpx | ldyAbs | ldyAbsx =>
    exact .none (ldy_keeps h)
  case adcImm | adcZp | adcZpx | adcAbs | adcAbsx | adcAbsy | adcIndx | adcIndy =>
    exact .none (adc_keeps h)
  case sbcImm | sbcZp | sbcZpx | sbcAbs | sbcAbsx | sbcAbsy | sbcIndx | sbcIndy =>
    exact .none (sbc_keeps h)
  case cmpImm | cmpZp | cmpZpx | cmpAbs | cmpAbsx | cmpAbsy | cmpIndx | cmpIndy | cpxImm | cpxZp | cpxAbs |
    cpyImm | cpyZp | cpyAbs =>
    exact .none (compareReg_keeps h)
  case andImm | andZp | andZpx | andAbs | andAbsx | andAbsy | andIndx | andIndy | oraImm | oraZp | oraZpx |
    oraAbs | oraAbsx | oraAbsy | oraIndx | oraIndy | eorImm | eorZp | eorZpx | eorAbs | eorAbsx | eorAbsy |
    eorIndx | eorIndy =>
    exact .none (logicResult_keeps h)
  case bitZp | bitAbs =>
    exact .none (bitTest_keeps h)
  case aslAcc | lsrAcc | rolAcc | rorAcc =>
    exact .none (shiftAcc_keeps h)
  case bpl | bmi | bvc | bvs | bcc | bcs | bne | beq =>
    exact .none (branch_keeps h)
  case staZp | staZpx | staAbs | staAbsx | staAbsy | staIndx | staIndy | stxZp | stxZpy | stxAbs | styZp |
    styZpx | styAbs =>
    exact store_memory h
  case incZp | incZpx | incAbs | incAbsx | decZp | decZpx | decAbs | decAbsx =>
    exact stepMem_memory h
  case aslZp | aslZpx | aslAbs | aslAbsx | lsrZp | lsrZpx | lsrAbs | lsrAbsx | rolZp | rolZpx | rolAbs |
    rolAbsx | rorZp | rorZpx | rorAbs | rorAbsx =>
    exact shiftMem_memory h
  case plp =>
    cases h
    obtain ⟨hm, hr, hk, hc⟩ := State.haltIfB_sameMemory
      ((s.pulled.setFlags (Flags.unpack s.pullByte)).advance Mode.imp.length)
    exact .none ⟨⟨hm, hr, hk, hc⟩, State.haltIfB_ticks _⟩
  case pha | php =>
    cases h; exact .one (stackAddr s.sp) _ (by simp [SameMemory]; exact ⟨rfl, rfl, rfl⟩) (by simp)
  case jsr =>
    cases h
    exact ⟨(s.writeByte (stackAddr s.sp) (hiByte (s.pc + s.cfg.jsrRetBias))).writeByte (stackAddr (s.sp - 1#8))
        (loByte (s.pc + s.cfg.jsrRetBias)), .inr (.inr ⟨_, _, _, _, rfl⟩),
      by simp [SameMemory, State.writeByte_setSP], by simp⟩
  all_goals cases h; exact .none ⟨by simp [SameMemory], by simp⟩

/-- The RTI form writes no memory (R268). -/
theorem execRti_memory {s t : State} (h : execRti s = .next t) : MemoryEffect s t := by
  cases h; exact .none ⟨⟨rfl, rfl, rfl, rfl⟩, rfl⟩

/-- The run state after an instruction: BRK halts, PLP may (R224, R247), and no other writes it (R39). -/
theorem exec_rs {i : Instr} {s t : State} (h : exec i s = .next t) :
    (i.mnemonic = .brk → t.rs = .halted) ∧
    (i.mnemonic = .plp → t.rs = if s.cfg.plpBHalts = true ∧ t.flags.b = true then .halted else s.rs) ∧
    (i.mnemonic ≠ .brk → i.mnemonic ≠ .plp → t.rs = s.rs) := by
  cases i
  case brk => cases h; exact ⟨fun _ => rfl, (fun h => by cases h), fun h => absurd rfl h⟩
  case plp =>
    cases h
    refine ⟨(fun h => by cases h), fun _ => ?_, fun _ h => absurd rfl h⟩
    unfold State.haltIfB
    split <;> rename_i hb <;> simp only [Bool.and_eq_true] at hb
    · exact (if_pos hb).symm
    · exact (if_neg hb).symm
  case bpl | bmi | bvc | bvs | bcc | bcs | bne | beq =>
    refine ⟨(fun h => by cases h), (fun h => by cases h), fun _ _ => ?_⟩
    cases h; split <;> rfl
  all_goals
    refine ⟨(fun h => by cases h), (fun h => by cases h), fun _ _ => ?_⟩
    cases h; rfl

/-- The fetched bytes decode to the row the bytes at PC, PC+1 and PC+2 select (R58, R82). -/
theorem decode_fetchBytes {s : State} {i : Instr}
    (h : decodeInstr (s.readByte s.pc) (s.readByte (s.pc + 1)) (s.readByte (s.pc + 2)) = some i) :
    decode (fetchBytes s) = .ok (i, []) := by
  have hd := decode_fetched h
  have hl := opcodeLength_eq h
  rcases i.length_cases with h3 | h3 | h3 <;> rw [h3] at hl hd <;> simp only [fetchBytes, hl] <;> exact hd

/-- With no such row, only the opcode is fetched, and it is unknown (R261). -/
theorem decode_fetchBytes_none {s : State}
    (h : decodeInstr (s.readByte s.pc) (s.readByte (s.pc + 1)) (s.readByte (s.pc + 2)) = none) :
    decode (fetchBytes s) = .error (.unknownInstruction (s.readByte s.pc)) := by
  have h0 := decodeInstr_eq_none 0 0 h
  have hl : opcodeLength (s.readByte s.pc) = none := by unfold opcodeLength; rw [h0]; rfl
  simp only [fetchBytes, hl, decode, List.getD_nil, h0]

/-- What a next state of the fetch and execute comes from. -/
theorem runFetched_cases {s t : State} (h : runFetched s = .next t) :
    (s.cfg.rtiImplemented = true ∧ execRti s = .next t) ∨
    (∃ i rest, decode (fetchBytes s) = .ok (i, rest) ∧ exec i s = .next t) ∨
    t = s.setRS (.faulted (s.readByte s.pc)) := by
  unfold runFetched at h
  split at h
  · rename_i hr; simp only [Bool.and_eq_true] at hr; exact .inl ⟨hr.1, h⟩
  · split at h
    · rename_i i rest hd; exact .inr (.inl ⟨i, rest, hd, h⟩)
    · cases h; exact .inr (.inr rfl)

/-- What fetch and execute can do to memory and to the model's own fields. -/
theorem runFetched_memory {s t : State} (h : runFetched s = .next t) : MemoryEffect s t := by
  rcases runFetched_cases h with ⟨-, h⟩ | ⟨i, rest, -, h⟩ | rfl
  · exact execRti_memory h
  · exact exec_memory h
  · exact .none ⟨by simp [SameMemory], by simp⟩

/-- A step answers a next state only from `Running`, and it is the cycle's. -/
theorem step_cases {s t : State} (h : step s = .next t) :
    s.rs = .running ∧ runFetched (beginCycle (Config.randomDraw s.ticks) (Config.keyWrite s.ticks) s) = .next t := by
  unfold step cycle at h
  split at h
  · exact ⟨‹_›, h⟩
  · cases h
  · cases h

/-- The start of a step keeps the state well formed. -/
theorem beginCycle_wf {s : State} (h : s.wf) (r : Byte) (k : Option Byte) : (beginCycle r k s).wf := h

end Sys2Proof.Machine
end

