-- ==== Sys2Proof/Laws/Observe.lean ====
section
/-! SUPPORT. What the views of a run show: the framebuffer of a run that has not faulted, and the report alone of one
that has (R263). -/

namespace Sys2Proof.Machine

/-- Cell `k` of a run that has not faulted is the byte of memory at its address (R64, R66). -/
theorem State.framebufferByte_eq {s : State} (h : ∀ op, s.rs ≠ .faulted op) {k : Nat} (hk : k < 1024) :
    s.framebufferByte k = some (s.readByte (s.framebufferAddr k)) := by
  unfold State.framebufferByte
  split
  · exact absurd ‹_› (h _)
  all_goals exact if_pos hk

/-- The view rests on RS, the parameters and the bytes at the cells alone. -/
theorem State.framebufferByte_congr {s t : State} {k : Nat} (hr : t.rs = s.rs) (hc : t.cfg = s.cfg)
    (hm : t.readByte (s.framebufferAddr k) = s.readByte (s.framebufferAddr k)) :
    t.framebufferByte k = s.framebufferByte k := by
  have ha : t.framebufferAddr k = s.framebufferAddr k := by simp only [State.framebufferAddr, hc]
  simp only [State.framebufferByte, hr, ha, hm]

theorem State.framebufferByte_faulted {s : State} {op : Byte} (h : s.rs = .faulted op) (k : Nat) :
    s.framebufferByte k = none := by simp only [State.framebufferByte, h]

theorem State.framebuffer_faulted {s : State} {op : Byte} (h : s.rs = .faulted op) : s.framebuffer = none := by
  have h0 : List.range 1024 = 0 :: (List.range 1023).map Nat.succ := List.range_succ_eq_map
  simp [State.framebuffer, h0, State.framebufferByte_faulted h]

theorem State.stopped_faulted {s : State} {op : Byte} (h : s.rs = .faulted op) : s.stopped = false := by
  simp [State.stopped, h]

theorem State.snapshot_faulted {s : State} {op : Byte} (h : s.rs = .faulted op) : s.snapshot = none := by
  simp [State.snapshot, State.stopped_faulted h]

theorem State.dumpByte_faulted {s : State} {op : Byte} (h : s.rs = .faulted op) (a : Addr) :
    s.dumpByte a = none := by simp [State.dumpByte, State.stopped_faulted h]

theorem State.errorReport_faulted {s : State} {op : Byte} (h : s.rs = .faulted op) :
    s.errorReport = some ⟨Config.exitUnknownInstr, op⟩ := by simp only [State.errorReport, h]

end Sys2Proof.Machine
end

