-- ==== Sys2Proof/Laws/Pairs.lean ====
section
/-! SUPPORT. The cells of R100's table, by mnemonic and mode: the two directions of R82's correspondence, for the
proofs that need the opcode of a pair. -/

namespace Sys2Proof

/-- The encoder's opcode is the cell of its pair. -/
theorem opcodeOfPair_eq (i : Instr) : opcodeOfPair i.mnemonic i.mode = some i.opcode := by
  cases i <;> rfl

/-- An admitted pair has a cell, and the decoder reads that opcode as the pair (R82, R100). -/
theorem decodeOpcode_of_admitted {m : Mnemonic} {md : Mode} (h : formAdmitted m md = true) :
    ∃ op, opcodeOfPair m md = some op ∧ decodeOpcode op = some (m, md, md.length) := by
  cases m <;> cases md <;> first | (cases h; done) | exact ⟨_, rfl, rfl⟩

/-- An opcode the decoder selects is the cell of the pair it selects. -/
theorem opcodeOfPair_of_decode {op : Byte} {m : Mnemonic} {md : Mode} {len : Nat}
    (h : decodeOpcode op = some (m, md, len)) :
    opcodeOfPair m md = some op ∧ len = md.length ∧ formAdmitted m md = true := by
  unfold decodeOpcode at h
  cases h' : decodeInstr op 0 0 with
  | none => rw [h'] at h; cases h
  | some i =>
    rw [h'] at h
    cases h
    obtain ⟨rfl, -⟩ := decodeInstr_eq_some h'
    exact ⟨opcodeOfPair_eq i, rfl, by cases i <;> rfl⟩

end Sys2Proof
end

