-- ==== Sys2Proof/Laws/PerInstr.lean ====
section
/-! SUPPORT. The per-instruction family `Encodes`: what holds of every instruction as syntax (R80 to R83, R100). -/

namespace Sys2Proof.Laws.Encodes

/-- The pair is an admitted one, the encoding has the mode's length and starts with the opcode, and the opcode's row
with the encoding's own operand bytes is the instruction. -/
def Statement (i : Instr) : Prop :=
  i.wf = true ∧ (encode i).length = i.mode.length ∧ (encode i).head? = some i.opcode ∧
    decodeInstr i.opcode ((encode i).getD 1 0) ((encode i).getD 2 0) = some i

/-- The part that does not depend on the instruction. -/
theorem of_wf {i : Instr} (h : i.wf = true) : Statement i := by
  refine ⟨h, ?_, rfl, decodeInstr_opcode i 0 0⟩
  rw [encode, List.length_cons, i.operand_bytes_length]
  have := i.length_cases
  unfold Instr.length at this ⊢
  omega

theorem ldaImm (b1 : Byte) : Statement (.ldaImm b1) := of_wf rfl
theorem ldaZp (b1 : Byte) : Statement (.ldaZp b1) := of_wf rfl
theorem ldaZpx (b1 : Byte) : Statement (.ldaZpx b1) := of_wf rfl
theorem ldaAbs (w : Addr) : Statement (.ldaAbs w) := of_wf rfl
theorem ldaAbsx (w : Addr) : Statement (.ldaAbsx w) := of_wf rfl
theorem ldaAbsy (w : Addr) : Statement (.ldaAbsy w) := of_wf rfl
theorem ldaIndx (b1 : Byte) : Statement (.ldaIndx b1) := of_wf rfl
theorem ldaIndy (b1 : Byte) : Statement (.ldaIndy b1) := of_wf rfl
theorem ldxImm (b1 : Byte) : Statement (.ldxImm b1) := of_wf rfl
theorem ldxZp (b1 : Byte) : Statement (.ldxZp b1) := of_wf rfl
theorem ldxZpy (b1 : Byte) : Statement (.ldxZpy b1) := of_wf rfl
theorem ldxAbs (w : Addr) : Statement (.ldxAbs w) := of_wf rfl
theorem ldxAbsy (w : Addr) : Statement (.ldxAbsy w) := of_wf rfl
theorem ldyImm (b1 : Byte) : Statement (.ldyImm b1) := of_wf rfl
theorem ldyZp (b1 : Byte) : Statement (.ldyZp b1) := of_wf rfl
theorem ldyZpx (b1 : Byte) : Statement (.ldyZpx b1) := of_wf rfl
theorem ldyAbs (w : Addr) : Statement (.ldyAbs w) := of_wf rfl
theorem ldyAbsx (w : Addr) : Statement (.ldyAbsx w) := of_wf rfl
theorem staZp (b1 : Byte) : Statement (.staZp b1) := of_wf rfl
theorem staZpx (b1 : Byte) : Statement (.staZpx b1) := of_wf rfl
theorem staAbs (w : Addr) : Statement (.staAbs w) := of_wf rfl
theorem staAbsx (w : Addr) : Statement (.staAbsx w) := of_wf rfl
theorem staAbsy (w : Addr) : Statement (.staAbsy w) := of_wf rfl
theorem staIndx (b1 : Byte) : Statement (.staIndx b1) := of_wf rfl
theorem staIndy (b1 : Byte) : Statement (.staIndy b1) := of_wf rfl
theorem stxZp (b1 : Byte) : Statement (.stxZp b1) := of_wf rfl
theorem stxZpy (b1 : Byte) : Statement (.stxZpy b1) := of_wf rfl
theorem stxAbs (w : Addr) : Statement (.stxAbs w) := of_wf rfl
theorem styZp (b1 : Byte) : Statement (.styZp b1) := of_wf rfl
theorem styZpx (b1 : Byte) : Statement (.styZpx b1) := of_wf rfl
theorem styAbs (w : Addr) : Statement (.styAbs w) := of_wf rfl
theorem adcImm (b1 : Byte) : Statement (.adcImm b1) := of_wf rfl
theorem adcZp (b1 : Byte) : Statement (.adcZp b1) := of_wf rfl
theorem adcZpx (b1 : Byte) : Statement (.adcZpx b1) := of_wf rfl
theorem adcAbs (w : Addr) : Statement (.adcAbs w) := of_wf rfl
theorem adcAbsx (w : Addr) : Statement (.adcAbsx w) := of_wf rfl
theorem adcAbsy (w : Addr) : Statement (.adcAbsy w) := of_wf rfl
theorem adcIndx (b1 : Byte) : Statement (.adcIndx b1) := of_wf rfl
theorem adcIndy (b1 : Byte) : Statement (.adcIndy b1) := of_wf rfl
theorem sbcImm (b1 : Byte) : Statement (.sbcImm b1) := of_wf rfl
theorem sbcZp (b1 : Byte) : Statement (.sbcZp b1) := of_wf rfl
theorem sbcZpx (b1 : Byte) : Statement (.sbcZpx b1) := of_wf rfl
theorem sbcAbs (w : Addr) : Statement (.sbcAbs w) := of_wf rfl
theorem sbcAbsx (w : Addr) : Statement (.sbcAbsx w) := of_wf rfl
theorem sbcAbsy (w : Addr) : Statement (.sbcAbsy w) := of_wf rfl
theorem sbcIndx (b1 : Byte) : Statement (.sbcIndx b1) := of_wf rfl
theorem sbcIndy (b1 : Byte) : Statement (.sbcIndy b1) := of_wf rfl
theorem cmpImm (b1 : Byte) : Statement (.cmpImm b1) := of_wf rfl
theorem cmpZp (b1 : Byte) : Statement (.cmpZp b1) := of_wf rfl
theorem cmpZpx (b1 : Byte) : Statement (.cmpZpx b1) := of_wf rfl
theorem cmpAbs (w : Addr) : Statement (.cmpAbs w) := of_wf rfl
theorem cmpAbsx (w : Addr) : Statement (.cmpAbsx w) := of_wf rfl
theorem cmpAbsy (w : Addr) : Statement (.cmpAbsy w) := of_wf rfl
theorem cmpIndx (b1 : Byte) : Statement (.cmpIndx b1) := of_wf rfl
theorem cmpIndy (b1 : Byte) : Statement (.cmpIndy b1) := of_wf rfl
theorem cpxImm (b1 : Byte) : Statement (.cpxImm b1) := of_wf rfl
theorem cpxZp (b1 : Byte) : Statement (.cpxZp b1) := of_wf rfl
theorem cpxAbs (w : Addr) : Statement (.cpxAbs w) := of_wf rfl
theorem cpyImm (b1 : Byte) : Statement (.cpyImm b1) := of_wf rfl
theorem cpyZp (b1 : Byte) : Statement (.cpyZp b1) := of_wf rfl
theorem cpyAbs (w : Addr) : Statement (.cpyAbs w) := of_wf rfl
theorem andImm (b1 : Byte) : Statement (.andImm b1) := of_wf rfl
theorem andZp (b1 : Byte) : Statement (.andZp b1) := of_wf rfl
theorem andZpx (b1 : Byte) : Statement (.andZpx b1) := of_wf rfl
theorem andAbs (w : Addr) : Statement (.andAbs w) := of_wf rfl
theorem andAbsx (w : Addr) : Statement (.andAbsx w) := of_wf rfl
theorem andAbsy (w : Addr) : Statement (.andAbsy w) := of_wf rfl
theorem andIndx (b1 : Byte) : Statement (.andIndx b1) := of_wf rfl
theorem andIndy (b1 : Byte) : Statement (.andIndy b1) := of_wf rfl
theorem oraImm (b1 : Byte) : Statement (.oraImm b1) := of_wf rfl
theorem oraZp (b1 : Byte) : Statement (.oraZp b1) := of_wf rfl
theorem oraZpx (b1 : Byte) : Statement (.oraZpx b1) := of_wf rfl
theorem oraAbs (w : Addr) : Statement (.oraAbs w) := of_wf rfl
theorem oraAbsx (w : Addr) : Statement (.oraAbsx w) := of_wf rfl
theorem oraAbsy (w : Addr) : Statement (.oraAbsy w) := of_wf rfl
theorem oraIndx (b1 : Byte) : Statement (.oraIndx b1) := of_wf rfl
theorem oraIndy (b1 : Byte) : Statement (.oraIndy b1) := of_wf rfl
theorem eorImm (b1 : Byte) : Statement (.eorImm b1) := of_wf rfl
theorem eorZp (b1 : Byte) : Statement (.eorZp b1) := of_wf rfl
theorem eorZpx (b1 : Byte) : Statement (.eorZpx b1) := of_wf rfl
theorem eorAbs (w : Addr) : Statement (.eorAbs w) := of_wf rfl
theorem eorAbsx (w : Addr) : Statement (.eorAbsx w) := of_wf rfl
theorem eorAbsy (w : Addr) : Statement (.eorAbsy w) := of_wf rfl
theorem eorIndx (b1 : Byte) : Statement (.eorIndx b1) := of_wf rfl
theorem eorIndy (b1 : Byte) : Statement (.eorIndy b1) := of_wf rfl
theorem bitZp (b1 : Byte) : Statement (.bitZp b1) := of_wf rfl
theorem bitAbs (w : Addr) : Statement (.bitAbs w) := of_wf rfl
theorem aslAcc : Statement .aslAcc := of_wf rfl
theorem aslZp (b1 : Byte) : Statement (.aslZp b1) := of_wf rfl
theorem aslZpx (b1 : Byte) : Statement (.aslZpx b1) := of_wf rfl
theorem aslAbs (w : Addr) : Statement (.aslAbs w) := of_wf rfl
theorem aslAbsx (w : Addr) : Statement (.aslAbsx w) := of_wf rfl
theorem lsrAcc : Statement .lsrAcc := of_wf rfl
theorem lsrZp (b1 : Byte) : Statement (.lsrZp b1) := of_wf rfl
theorem lsrZpx (b1 : Byte) : Statement (.lsrZpx b1) := of_wf rfl
theorem lsrAbs (w : Addr) : Statement (.lsrAbs w) := of_wf rfl
theorem lsrAbsx (w : Addr) : Statement (.lsrAbsx w) := of_wf rfl
theorem rolAcc : Statement .rolAcc := of_wf rfl
theorem rolZp (b1 : Byte) : Statement (.rolZp b1) := of_wf rfl
theorem rolZpx (b1 : Byte) : Statement (.rolZpx b1) := of_wf rfl
theorem rolAbs (w : Addr) : Statement (.rolAbs w) := of_wf rfl
theorem rolAbsx (w : Addr) : Statement (.rolAbsx w) := of_wf rfl
theorem rorAcc : Statement .rorAcc := of_wf rfl
theorem rorZp (b1 : Byte) : Statement (.rorZp b1) := of_wf rfl
theorem rorZpx (b1 : Byte) : Statement (.rorZpx b1) := of_wf rfl
theorem rorAbs (w : Addr) : Statement (.rorAbs w) := of_wf rfl
theorem rorAbsx (w : Addr) : Statement (.rorAbsx w) := of_wf rfl
theorem incZp (b1 : Byte) : Statement (.incZp b1) := of_wf rfl
theorem incZpx (b1 : Byte) : Statement (.incZpx b1) := of_wf rfl
theorem incAbs (w : Addr) : Statement (.incAbs w) := of_wf rfl
theorem incAbsx (w : Addr) : Statement (.incAbsx w) := of_wf rfl
theorem decZp (b1 : Byte) : Statement (.decZp b1) := of_wf rfl
theorem decZpx (b1 : Byte) : Statement (.decZpx b1) := of_wf rfl
theorem decAbs (w : Addr) : Statement (.decAbs w) := of_wf rfl
theorem decAbsx (w : Addr) : Statement (.decAbsx w) := of_wf rfl
theorem inx : Statement .inx := of_wf rfl
theorem iny : Statement .iny := of_wf rfl
theorem dex : Statement .dex := of_wf rfl
theorem dey : Statement .dey := of_wf rfl
theorem tax : Statement .tax := of_wf rfl
theorem tay : Statement .tay := of_wf rfl
theorem txa : Statement .txa := of_wf rfl
theorem tya : Statement .tya := of_wf rfl
theorem tsx : Statement .tsx := of_wf rfl
theorem txs : Statement .txs := of_wf rfl
theorem pha : Statement .pha := of_wf rfl
theorem php : Statement .php := of_wf rfl
theorem pla : Statement .pla := of_wf rfl
theorem plp : Statement .plp := of_wf rfl
theorem bpl (off : Byte) : Statement (.bpl off) := of_wf rfl
theorem bmi (off : Byte) : Statement (.bmi off) := of_wf rfl
theorem bvc (off : Byte) : Statement (.bvc off) := of_wf rfl
theorem bvs (off : Byte) : Statement (.bvs off) := of_wf rfl
theorem bcc (off : Byte) : Statement (.bcc off) := of_wf rfl
theorem bcs (off : Byte) : Statement (.bcs off) := of_wf rfl
theorem bne (off : Byte) : Statement (.bne off) := of_wf rfl
theorem beq (off : Byte) : Statement (.beq off) := of_wf rfl
theorem jmpAbs (w : Addr) : Statement (.jmpAbs w) := of_wf rfl
theorem jmpInd (w : Addr) : Statement (.jmpInd w) := of_wf rfl
theorem jsr (w : Addr) : Statement (.jsr w) := of_wf rfl
theorem rts : Statement .rts := of_wf rfl
theorem brk : Statement .brk := of_wf rfl
theorem clc : Statement .clc := of_wf rfl
theorem sec : Statement .sec := of_wf rfl
theorem cli : Statement .cli := of_wf rfl
theorem sei : Statement .sei := of_wf rfl
theorem clv : Statement .clv := of_wf rfl
theorem cld : Statement .cld := of_wf rfl
theorem sed : Statement .sed := of_wf rfl
theorem nop : Statement .nop := of_wf rfl

end Sys2Proof.Laws.Encodes
end

