-- ==== Sys2Proof/Laws/Specs.lean ====
section
/-! SUPPORT. What each shared operation answers, as one record update over the fields it writes: a field the update
does not name is left. Proofs over many instructions cite these and unfold no meaning. -/

namespace Sys2Proof.Machine

variable {s t : State} {d : DataOperand} {m : MemOperand} {v : Byte}

theorem lda_next (h : lda d s = .next t) : t = { s with
    a := operandValue d s, flags := s.flags.setNZ (operandValue d s), pc := s.pc + BitVec.ofNat 16 d.mode.length } := by
  cases h; rfl

theorem ldx_next (h : ldx d s = .next t) : t = { s with
    x := operandValue d s, flags := s.flags.setNZ (operandValue d s), pc := s.pc + BitVec.ofNat 16 d.mode.length } := by
  cases h; rfl

theorem ldy_next (h : ldy d s = .next t) : t = { s with
    y := operandValue d s, flags := s.flags.setNZ (operandValue d s), pc := s.pc + BitVec.ofNat 16 d.mode.length } := by
  cases h; rfl

theorem store_next (h : store m v s = .next t) : t = { s.writeByte (effAddr m s) v with
    pc := s.pc + BitVec.ofNat 16 m.mode.length } := by
  cases h; rfl

theorem adc_next (h : adc d s = .next t) : ∃ r : AluResult, r = addCore s.a (operandValue d s) s.flags.c ∧ t = { s with
    a := r.r, flags := { s.flags with c := r.c, v := r.v }.setNZ r.r, pc := s.pc + BitVec.ofNat 16 d.mode.length } := by
  cases h; exact ⟨_, rfl, rfl⟩

theorem sbc_next (h : sbc d s = .next t) : ∃ r : AluResult, r = addCore s.a (~~~operandValue d s) s.flags.c ∧ t = { s with
    a := r.r, flags := { s.flags with c := r.c, v := r.v }.setNZ r.r, pc := s.pc + BitVec.ofNat 16 d.mode.length } := by
  cases h; exact ⟨_, rfl, rfl⟩

theorem compareReg_next (h : compareReg v d s = .next t) : t = { s with
    flags := { s.flags with c := decide (operandValue d s ≤ v) }.setNZ (v - operandValue d s)
    pc := s.pc + BitVec.ofNat 16 d.mode.length } := by
  cases h; rfl

theorem logicResult_next (h : logicResult v d s = .next t) : t = { s with
    a := v, flags := s.flags.setNZ v, pc := s.pc + BitVec.ofNat 16 d.mode.length } := by
  cases h; rfl

theorem bitTest_next (h : bitTest m s = .next t) : ∃ b, b = s.readByte (effAddr m s) ∧ t = { s with
    flags := { s.flags with z := decide (s.a &&& b = 0#8), n := b.getLsbD 7, v := b.getLsbD 6 }
    pc := s.pc + BitVec.ofNat 16 m.mode.length } := by
  cases h; exact ⟨_, rfl, rfl⟩

theorem shiftAcc_next {f : Byte → Bool → ShiftResult} (h : shiftAcc f s = .next t) :
    ∃ r : ShiftResult, r = f s.a s.flags.c ∧ t = { s with
      a := r.r, flags := { s.flags with c := r.c }.setNZ r.r, pc := s.pc + BitVec.ofNat 16 Mode.acc.length } := by
  cases h; exact ⟨_, rfl, rfl⟩

theorem shiftMem_next {f : Byte → Bool → ShiftResult} (h : shiftMem f m s = .next t) :
    ∃ r : ShiftResult, r = f (s.readByte (effAddr m s)) s.flags.c ∧ t = { s.writeByte (effAddr m s) r.r with
      flags := { s.flags with c := r.c }.setNZ r.r, pc := s.pc + BitVec.ofNat 16 m.mode.length } := by
  cases h; exact ⟨_, rfl, rfl⟩

theorem stepMem_next (h : stepMem v m s = .next t) : ∃ r, r = s.readByte (effAddr m s) + v ∧
    t = { s.writeByte (effAddr m s) r with
      flags := s.flags.setNZ r, pc := s.pc + BitVec.ofNat 16 m.mode.length } := by
  cases h; exact ⟨_, rfl, rfl⟩

/-- A branch writes PC alone (R230). -/
theorem branch_next {c : Bool} {off : Byte} (h : branch c off s = .next t) : t = { s with
    pc := if c then branchTarget s.pc off else s.pc + BitVec.ofNat 16 Mode.rel.length } := by
  cases c <;> cases h <;> rfl

theorem execPla_next (h : execPla s = .next t) : t = { s with
    a := s.pullByte, sp := s.sp + 1#8, flags := s.flags.setNZ s.pullByte
    pc := s.pc + BitVec.ofNat 16 Mode.imp.length } := by
  cases h; rfl

theorem execPlp_next (h : execPlp s = .next t) : t = { s with
    sp := s.sp + 1#8, flags := Flags.unpack s.pullByte, pc := s.pc + BitVec.ofNat 16 Mode.imp.length
    rs := if s.cfg.plpBHalts = true ∧ (Flags.unpack s.pullByte).b = true then .halted else s.rs } := by
  cases h
  unfold State.haltIfB
  split <;> rename_i hb <;> rw [Bool.and_eq_true] at hb
  · rw [if_pos (by exact hb)]; rfl
  · rw [if_neg (by exact hb)]; rfl

theorem execPha_next (h : execPha s = .next t) : t = { s.writeByte (stackAddr s.sp) s.a with
    sp := s.sp - 1#8, pc := s.pc + BitVec.ofNat 16 Mode.imp.length } := by
  cases h; rfl

theorem execPhp_next (h : execPhp s = .next t) : t = { s.writeByte (stackAddr s.sp) s.flags.pack with
    sp := s.sp - 1#8, pc := s.pc + BitVec.ofNat 16 Mode.imp.length } := by
  cases h; rfl

theorem execJsr_next {w : Addr} (h : execJsr w s = .next t) : ∃ ret, ret = s.pc + s.cfg.jsrRetBias ∧
    t = { (s.writeByte (stackAddr s.sp) (hiByte ret)).writeByte (stackAddr (s.sp - 1#8)) (loByte ret) with
      sp := s.sp - 1#8 - 1#8, pc := w } := by
  cases h; exact ⟨_, rfl, rfl⟩

theorem execRts_next (h : execRts s = .next t) : t = { s with
    sp := s.sp + 1#8 + 1#8
    pc := hiLo (s.readByte (stackAddr (s.sp + 1#8 + 1#8))) (s.readByte (stackAddr (s.sp + 1#8)))
      + (3#16 - s.cfg.jsrRetBias) } := by
  cases h; rfl

end Sys2Proof.Machine
end

