-- ==== Sys2Proof/Tests/Slice0.lean ====
section
/-! SUPPORT. The model's own tests. Expected values come from the spec: bytes from the tables of 30_encoding.md R99 and
R100, single steps from the vectors V, S, E, K and A of 95_test_vectors.md. After them, a witness for the hypotheses of
each obligation that has some. -/

namespace Sys2Proof.Tests

open Sys2Proof.Machine Sys2Proof.Spec

/-! ### What is ill formed is refused -/

/-- A18, R143, R183, R200, R241, R244, R118: pairs the table has no row for. -/
theorem test_unsupported_modes_refused :
    [(Mnemonic.sta, Mode.imm), (.stx, .zpx), (.stx, .absy), (.sty, .absx), (.ldx, .zpx), (.ldx, .absx), (.ldy, .zpy),
      (.bit, .imm), (.inc, .acc), (.cpx, .zpx), (.jmp, .zp), (.jsr, .ind), (.bne, .abs), (.inx, .zp),
      (.asl, .imp)].all (fun p => !formAdmitted p.1 p.2) = true := by decide

/-- Every row of the opcode table is an admitted pair. -/
theorem test_table_pairs_admitted :
    ∀ rows ∈ [opcodeRows0, opcodeRows1, opcodeRows2, opcodeRows3, opcodeRows4, opcodeRows5],
      (rows.all fun row => formAdmitted row.2.1 row.2.2.1) = true := by decide

/-- R9: a framebuffer that wraps, equal cells, and a cell at either end of the framebuffer are refused. -/
theorem test_bad_parameters_refused :
    Config.wf { fbBase := 0xFC01 } = false ∧ Config.wf { randAddr := 0x00FF } = false ∧
    Config.wf { randAddr := 0x0200 } = false ∧ Config.wf { keyAddr := 0x05FF } = false ∧
    Config.wf {} = true ∧ Config.wf { fbBase := 0xFC00 } = true := by decide

/-- R70: an image one byte too long is refused, the longest is not. -/
theorem test_long_image_refused :
    Config.imageFits { loadAddr := 0xFFFE } [0, 0, 0] = false ∧
    Config.imageFits { loadAddr := 0xFFFE } [0, 0] = true := by decide

/-- R96, R98: no bytes, an unknown opcode, and a missing operand byte are refused by name. -/
theorem test_decode_refusals :
    (decode [] matches .error .noBytes) = true ∧
    (decode [0x02, 0, 0] matches .error (.unknownInstruction 0x02)) = true ∧
    (decode [0x40] matches .error (.unknownInstruction 0x40)) = true ∧
    (decode [0xA9] matches .error (.truncated 0xA9)) = true ∧
    (decode [0xAD, 0x34] matches .error (.truncated 0xAD)) = true := by decide

/-! ### Decoding, from the cells of R99 and R100 -/

/-- Each byte list decodes to its instruction with nothing left, and is what the instruction encodes to. -/
def codes (l : List (List Byte × Instr)) : Bool :=
  l.all fun p => (match decode p.1 with | .ok (i, []) => i == p.2 | _ => false) && encode p.2 == p.1

theorem test_decode_loadStore1 : codes [
    ([0xA9, 0x34], .ldaImm 0x34), ([0xA5, 0x34], .ldaZp 0x34), ([0xB5, 0x34], .ldaZpx 0x34),
    ([0xAD, 0x34, 0x12], .ldaAbs 0x1234), ([0xBD, 0x34, 0x12], .ldaAbsx 0x1234),
    ([0xB9, 0x34, 0x12], .ldaAbsy 0x1234), ([0xA1, 0x34], .ldaIndx 0x34), ([0xB1, 0x34], .ldaIndy 0x34),
    ([0xA2, 0x34], .ldxImm 0x34), ([0xA6, 0x34], .ldxZp 0x34), ([0xB6, 0x34], .ldxZpy 0x34),
    ([0xAE, 0x34, 0x12], .ldxAbs 0x1234), ([0xBE, 0x34, 0x12], .ldxAbsy 0x1234), ([0xA0, 0x34], .ldyImm 0x34),
    ([0xA4, 0x34], .ldyZp 0x34), ([0xB4, 0x34], .ldyZpx 0x34), ([0xAC, 0x34, 0x12], .ldyAbs 0x1234),
    ([0xBC, 0x34, 0x12], .ldyAbsx 0x1234), ([0x85, 0x34], .staZp 0x34), ([0x95, 0x34], .staZpx 0x34),
    ([0x8D, 0x34, 0x12], .staAbs 0x1234), ([0x9D, 0x34, 0x12], .staAbsx 0x1234),
    ([0x99, 0x34, 0x12], .staAbsy 0x1234), ([0x81, 0x34], .staIndx 0x34), ([0x91, 0x34], .staIndy 0x34),
    ([0x86, 0x34], .stxZp 0x34), ([0x96, 0x34], .stxZpy 0x34), ([0x8E, 0x34, 0x12], .stxAbs 0x1234),
    ([0x84, 0x34], .styZp 0x34), ([0x94, 0x34], .styZpx 0x34)] = true :=
  by decide

theorem test_decode_loadStore2 : codes [
    ([0x8C, 0x34, 0x12], .styAbs 0x1234)] = true :=
  by decide

theorem test_decode_addSub : codes [
    ([0x69, 0x34], .adcImm 0x34), ([0x65, 0x34], .adcZp 0x34), ([0x75, 0x34], .adcZpx 0x34),
    ([0x6D, 0x34, 0x12], .adcAbs 0x1234), ([0x7D, 0x34, 0x12], .adcAbsx 0x1234),
    ([0x79, 0x34, 0x12], .adcAbsy 0x1234), ([0x61, 0x34], .adcIndx 0x34), ([0x71, 0x34], .adcIndy 0x34),
    ([0xE9, 0x34], .sbcImm 0x34), ([0xE5, 0x34], .sbcZp 0x34), ([0xF5, 0x34], .sbcZpx 0x34),
    ([0xED, 0x34, 0x12], .sbcAbs 0x1234), ([0xFD, 0x34, 0x12], .sbcAbsx 0x1234),
    ([0xF9, 0x34, 0x12], .sbcAbsy 0x1234), ([0xE1, 0x34], .sbcIndx 0x34), ([0xF1, 0x34], .sbcIndy 0x34),
    ([0xC9, 0x34], .cmpImm 0x34), ([0xC5, 0x34], .cmpZp 0x34), ([0xD5, 0x34], .cmpZpx 0x34),
    ([0xCD, 0x34, 0x12], .cmpAbs 0x1234), ([0xDD, 0x34, 0x12], .cmpAbsx 0x1234),
    ([0xD9, 0x34, 0x12], .cmpAbsy 0x1234), ([0xC1, 0x34], .cmpIndx 0x34), ([0xD1, 0x34], .cmpIndy 0x34),
    ([0xE0, 0x34], .cpxImm 0x34), ([0xE4, 0x34], .cpxZp 0x34), ([0xEC, 0x34, 0x12], .cpxAbs 0x1234),
    ([0xC0, 0x34], .cpyImm 0x34), ([0xC4, 0x34], .cpyZp 0x34), ([0xCC, 0x34, 0x12], .cpyAbs 0x1234)] = true :=
  by decide

theorem test_decode_logic : codes [
    ([0x29, 0x34], .andImm 0x34), ([0x25, 0x34], .andZp 0x34), ([0x35, 0x34], .andZpx 0x34),
    ([0x2D, 0x34, 0x12], .andAbs 0x1234), ([0x3D, 0x34, 0x12], .andAbsx 0x1234),
    ([0x39, 0x34, 0x12], .andAbsy 0x1234), ([0x21, 0x34], .andIndx 0x34), ([0x31, 0x34], .andIndy 0x34),
    ([0x09, 0x34], .oraImm 0x34), ([0x05, 0x34], .oraZp 0x34), ([0x15, 0x34], .oraZpx 0x34),
    ([0x0D, 0x34, 0x12], .oraAbs 0x1234), ([0x1D, 0x34, 0x12], .oraAbsx 0x1234),
    ([0x19, 0x34, 0x12], .oraAbsy 0x1234), ([0x01, 0x34], .oraIndx 0x34), ([0x11, 0x34], .oraIndy 0x34),
    ([0x49, 0x34], .eorImm 0x34), ([0x45, 0x34], .eorZp 0x34), ([0x55, 0x34], .eorZpx 0x34),
    ([0x4D, 0x34, 0x12], .eorAbs 0x1234), ([0x5D, 0x34, 0x12], .eorAbsx 0x1234),
    ([0x59, 0x34, 0x12], .eorAbsy 0x1234), ([0x41, 0x34], .eorIndx 0x34), ([0x51, 0x34], .eorIndy 0x34),
    ([0x24, 0x34], .bitZp 0x34), ([0x2C, 0x34, 0x12], .bitAbs 0x1234)] = true :=
  by decide

theorem test_decode_shift : codes [
    ([0x0A], .aslAcc), ([0x06, 0x34], .aslZp 0x34), ([0x16, 0x34], .aslZpx 0x34),
    ([0x0E, 0x34, 0x12], .aslAbs 0x1234), ([0x1E, 0x34, 0x12], .aslAbsx 0x1234), ([0x4A], .lsrAcc),
    ([0x46, 0x34], .lsrZp 0x34), ([0x56, 0x34], .lsrZpx 0x34), ([0x4E, 0x34, 0x12], .lsrAbs 0x1234),
    ([0x5E, 0x34, 0x12], .lsrAbsx 0x1234), ([0x2A], .rolAcc), ([0x26, 0x34], .rolZp 0x34),
    ([0x36, 0x34], .rolZpx 0x34), ([0x2E, 0x34, 0x12], .rolAbs 0x1234), ([0x3E, 0x34, 0x12], .rolAbsx 0x1234),
    ([0x6A], .rorAcc), ([0x66, 0x34], .rorZp 0x34), ([0x76, 0x34], .rorZpx 0x34),
    ([0x6E, 0x34, 0x12], .rorAbs 0x1234), ([0x7E, 0x34, 0x12], .rorAbsx 0x1234)] = true :=
  by decide

theorem test_decode_incDec : codes [
    ([0xE6, 0x34], .incZp 0x34), ([0xF6, 0x34], .incZpx 0x34), ([0xEE, 0x34, 0x12], .incAbs 0x1234),
    ([0xFE, 0x34, 0x12], .incAbsx 0x1234), ([0xC6, 0x34], .decZp 0x34), ([0xD6, 0x34], .decZpx 0x34),
    ([0xCE, 0x34, 0x12], .decAbs 0x1234), ([0xDE, 0x34, 0x12], .decAbsx 0x1234), ([0xE8], .inx), ([0xC8], .iny),
    ([0xCA], .dex), ([0x88], .dey)] = true :=
  by decide

theorem test_decode_transfer : codes [
    ([0xAA], .tax), ([0xA8], .tay), ([0x8A], .txa), ([0x98], .tya), ([0xBA], .tsx), ([0x9A], .txs)] = true :=
  by decide

theorem test_decode_stack : codes [
    ([0x48], .pha), ([0x08], .php), ([0x68], .pla), ([0x28], .plp)] = true :=
  by decide

theorem test_decode_branch : codes [
    ([0x10, 0x34], .bpl 0x34), ([0x30, 0x34], .bmi 0x34), ([0x50, 0x34], .bvc 0x34), ([0x70, 0x34], .bvs 0x34),
    ([0x90, 0x34], .bcc 0x34), ([0xB0, 0x34], .bcs 0x34), ([0xD0, 0x34], .bne 0x34), ([0xF0, 0x34], .beq 0x34)] = true :=
  by decide

theorem test_decode_jumpCallHalt : codes [
    ([0x4C, 0x34, 0x12], .jmpAbs 0x1234), ([0x6C, 0x34, 0x12], .jmpInd 0x1234), ([0x20, 0x34, 0x12], .jsr 0x1234),
    ([0x60], .rts), ([0x00], .brk)] = true :=
  by decide

theorem test_decode_flagNop : codes [
    ([0x18], .clc), ([0x38], .sec), ([0x58], .cli), ([0x78], .sei), ([0xB8], .clv), ([0xD8], .cld), ([0xF8], .sed),
    ([0xEA], .nop)] = true :=
  by decide

/-! ### Label resolution (A1 to A5) -/

theorem test_resolve_relative :
    resolveRelative 0 2 = some 0xFD ∧ resolveRelative 3 1 = some 0x01 ∧ resolveRelative 0 127 = some 0x80 ∧
    resolveRelative 0 128 = none ∧ resolveRelative 130 1 = none := by decide

theorem test_resolve_absolute :
    resolveAbsolute {} 9 = some [0x09, 0x06] ∧ resolveAbsolute {} 3 = some [0x03, 0x06] ∧
    resolveAbsolute {} 0xFA00 = none := by decide

/-! ### The assembler (A1, A2, A5 to A18, W2, and program P2) -/

/-- The assembled bytes at the default parameters, none on an error. -/
def asm (source : String) : Option (List Byte) :=
  match assemble {} source.toList with
  | .ok bytes => some bytes
  | .error _ => none

/-- The error, if there is one. -/
def asmFails (source : String) : Option (Nat × AsmErrorKind) :=
  match assemble {} source.toList with
  | .ok _ => none
  | .error e => some (e.line, e.kind)

theorem test_asm_branches :
    asm "loop: dex
 bne loop" = some [0xCA, 0xD0, 0xFD] ∧
    asm "beq skip ; over one
nop
skip: brk" = some [0xF0, 0x01, 0xEA, 0x00] := by decide

theorem test_asm_references :
    asm "jsr sub
nop
nop
nop
nop
nop
nop
sub:" = some [0x20, 0x09, 0x06, 0xEA, 0xEA, 0xEA, 0xEA, 0xEA, 0xEA] ∧
    asm "jmp mid
mid: nop
jmp mid" = some [0x4C, 0x03, 0x06, 0xEA, 0x4C, 0x03, 0x06] ∧
    asm "lda label
nop
nop
nop
nop
label:" = some [0xAD, 0x07, 0x06, 0xEA, 0xEA, 0xEA, 0xEA] ∧
    asm "dcb $01, $1234, sub
sub:" = some [0x01, 0x34, 0x12, 0x05, 0x06] := by decide

theorem test_asm_operands :
    asm "lda #$80
LDA #128
Lda #$80" = some [0xA9, 0x80, 0xA9, 0x80, 0xA9, 0x80] ∧
    asm "lda $10
lda $0010
lda $1234" = some [0xA5, 0x10, 0xAD, 0x10, 0x00, 0xAD, 0x34, 0x12] ∧
    asm "define ptr $20
lda ptr" = some [0xA5, 0x20] ∧ asm "asl a" = some [0x0A] ∧
    asm "jmp ($1234)
jmp $1234" = some [0x6C, 0x34, 0x12, 0x4C, 0x34, 0x12] ∧
    asm "sta ($30),y
lda ($20,x)
lda $0012,y" = some [0x91, 0x30, 0xA1, 0x20, 0xB9, 0x12, 0x00] := by decide

theorem test_asm_errors :
    asmFails "define ptr $20
lda (ptr),y" = some (2, .unsupportedMode .lda) ∧
    asmFails "lda #label" = some (1, .unsupportedMode .lda) ∧ asmFails "inx $10" = some (1, .syntaxError none) ∧
    asmFails "bne $0600" = some (1, .syntaxError none) ∧ asmFails "foo #1" = some (1, .syntaxError (some ['f', 'o', 'o'])) ∧
    asmFails "

jmp nowhere" = some (3, .labelNotFound) ∧ asmFails "stx $10,x" = some (1, .unsupportedMode .stx) ∧
    asmFails "sta #$01" = some (1, .unsupportedMode .sta) ∧ asmFails "asl" = some (1, .syntaxError none) ∧
    asmFails "lda $12345" = some (1, .numberTooLarge) ∧ asmFails "lda 1z" = some (1, .invalidNumber) := by decide

/-- P2's source and bytes. -/
theorem test_asm_program :
    asm "lda #$11
jsr sub
sta $0200
brk
sub: pha
asl a
sta $20
pla
rts" =
      some [0xA9, 0x11, 0x20, 0x09, 0x06, 0x8D, 0x00, 0x02, 0x00, 0x48, 0x0A, 0x85, 0x20, 0x68, 0x60] := by decide

/-! ### Single steps

Each vector is one step with a draw of 0 and no keypress; the whole state after it is compared. -/

/-- All flags clear. -/
def noFlags : Flags := State.reset.flags

/-- Bytes written one by one. -/
def poke (s : State) (l : List (Addr × Byte)) : State := l.foldl (fun s p => s.writeByte p.1 p.2) s

/-- The state with memory bytes set and an instruction's bytes at PC. -/
def start (s : State) (m : List (Addr × Byte)) (bytes : List Byte) : State := (poke s m).copyImage s.pc bytes

/-- One step from there gives the registers, flags and run state of `e`, and memory changed in `m'` only. -/
def ends (s : State) (m : List (Addr × Byte)) (bytes : List Byte) (e : State) (m' : List (Addr × Byte)) : Bool :=
  match cycle 0 none (start s m bytes) with
  | .next t => t == { e with mem := (poke (start s m bytes) m').mem, ticks := 1 }
  | _ => false

/-- V1, V2, V4, V5, V6, V7, V8, V9. -/
theorem test_lda :
    ends State.reset [] [0xA9, 0x00]
      { State.reset with pc := 0x0602, flags := { noFlags with z := true } } [] = true ∧
    ends State.reset [] [0xA9, 0x80]
      { State.reset with a := 0x80, pc := 0x0602, flags := { noFlags with n := true } } [] = true ∧
    ends { State.reset with x := 0x05 } [(0x0015, 0x7F)] [0xB5, 0x10]
      { State.reset with a := 0x7F, x := 0x05, pc := 0x0602 } [] = true ∧
    ends { State.reset with x := 0x20 } [(0x0010, 0x99)] [0xB5, 0xF0]
      { State.reset with a := 0x99, x := 0x20, pc := 0x0602, flags := { noFlags with n := true } } [] = true ∧
    ends { State.reset with x := 0x20 } [(0x0010, 0x42)] [0xBD, 0xF0, 0xFF]
      { State.reset with a := 0x42, x := 0x20, pc := 0x0603 } [] = true ∧
    ends { State.reset with y := 0x05 } [(0x0020, 0x00), (0x0021, 0x02), (0x0205, 0xC3)] [0xB1, 0x20]
      { State.reset with a := 0xC3, y := 0x05, pc := 0x0602, flags := { noFlags with n := true } } [] = true ∧
    ends { State.reset with x := 0x04 } [(0x0024, 0x00), (0x0025, 0x02), (0x0200, 0x11)] [0xA1, 0x20]
      { State.reset with a := 0x11, x := 0x04, pc := 0x0602 } [] = true ∧
    ends { State.reset with y := 0x01 } [(0x00FF, 0x00), (0x0000, 0x03), (0x0301, 0x5A)] [0xB1, 0xFF]
      { State.reset with a := 0x5A, y := 0x01, pc := 0x0602 } [] = true :=
  by decide

/-- V10, V11. -/
theorem test_ldx :
    ends State.reset [] [0xA2, 0xFF]
      { State.reset with x := 0xFF, pc := 0x0602, flags := { noFlags with n := true } } [] = true ∧
    ends { State.reset with y := 0x03 } [(0x0001, 0x77)] [0xB6, 0xFE]
      { State.reset with x := 0x77, y := 0x03, pc := 0x0602 } [] = true :=
  by decide

/-- V12. -/
theorem test_ldy :
    ends { State.reset with x := 0x01 } [(0x0301, 0x00)] [0xBC, 0x00, 0x03]
      { State.reset with x := 0x01, pc := 0x0603, flags := { noFlags with z := true } } [] = true :=
  by decide

/-- V13, V14, V15. -/
theorem test_sta :
    ends { State.reset with a := 0x01 } [] [0x8D, 0x00, 0x02]
      { State.reset with a := 0x01, pc := 0x0603 } [(0x0200, 0x01)] = true ∧
    ends { State.reset with a := 0x80, y := 0x05 } [(0x0020, 0x00), (0x0021, 0x02)] [0x91, 0x20]
      { State.reset with a := 0x80, y := 0x05, pc := 0x0602 } [(0x0205, 0x80)] = true ∧
    ends { State.reset with a := 0x33, flags := { noFlags with n := true } } [] [0x85, 0x10]
      { State.reset with a := 0x33, pc := 0x0602, flags := { noFlags with n := true } } [(0x0010, 0x33)] = true :=
  by decide

/-- V16. -/
theorem test_stx :
    ends { State.reset with x := 0x07, y := 0x02 } [] [0x96, 0x10]
      { State.reset with x := 0x07, y := 0x02, pc := 0x0602 } [(0x0012, 0x07)] = true :=
  by decide

/-- V17. -/
theorem test_sty :
    ends { State.reset with y := 0x09 } [] [0x8C, 0x34, 0x12]
      { State.reset with y := 0x09, pc := 0x0603 } [(0x1234, 0x09)] = true :=
  by decide

/-- V18, V19, V24. -/
theorem test_adc :
    ends { State.reset with a := 0x7F } [] [0x69, 0x01]
      { State.reset with a := 0x80, pc := 0x0602, flags := { noFlags with n := true, v := true } } [] = true ∧
    ends { State.reset with a := 0xFF } [] [0x69, 0x01]
      { State.reset with a := 0x00, pc := 0x0602, flags := { noFlags with z := true, c := true } } [] = true ∧
    ends { State.reset with a := 0x10, flags := { noFlags with c := true } } [(0x0040, 0x20)] [0x65, 0x40]
      { State.reset with a := 0x31, pc := 0x0602 } [] = true :=
  by decide

/-- V25, V26. -/
theorem test_sbc :
    ends { State.reset with a := 0x00, flags := { noFlags with c := true } } [] [0xE9, 0x01]
      { State.reset with a := 0xFF, pc := 0x0602, flags := { noFlags with n := true } } [] = true ∧
    ends { State.reset with a := 0x80, flags := { noFlags with c := true } } [] [0xE9, 0x01]
      { State.reset with a := 0x7F, pc := 0x0602, flags := { noFlags with v := true, c := true } } [] = true :=
  by decide

/-- V31, V32. -/
theorem test_cmp :
    ends { State.reset with a := 0x10 } [] [0xC9, 0x10]
      { State.reset with a := 0x10, pc := 0x0602, flags := { noFlags with z := true, c := true } } [] = true ∧
    ends { State.reset with a := 0x10 } [] [0xC9, 0x20]
      { State.reset with a := 0x10, pc := 0x0602, flags := { noFlags with n := true } } [] = true :=
  by decide

/-- V35, V36. -/
theorem test_cpx :
    ends { State.reset with x := 0x00 } [] [0xE0, 0x00]
      { State.reset with x := 0x00, pc := 0x0602, flags := { noFlags with z := true, c := true } } [] = true ∧
    ends { State.reset with x := 0x00 } [] [0xE0, 0xFF]
      { State.reset with x := 0x00, pc := 0x0602 } [] = true :=
  by decide

/-- V38, V39. -/
theorem test_cpy :
    ends { State.reset with y := 0xFF } [] [0xC0, 0x00]
      { State.reset with y := 0xFF, pc := 0x0602, flags := { noFlags with n := true, c := true } } [] = true ∧
    ends { State.reset with y := 0x20 } [(0x0300, 0x20)] [0xCC, 0x00, 0x03]
      { State.reset with y := 0x20, pc := 0x0603, flags := { noFlags with z := true, c := true } } [] = true :=
  by decide

/-- V40, V41. -/
theorem test_and :
    ends { State.reset with a := 0xF0 } [] [0x29, 0x0F]
      { State.reset with a := 0x00, pc := 0x0602, flags := { noFlags with z := true } } [] = true ∧
    ends { State.reset with a := 0xFF } [] [0x29, 0x80]
      { State.reset with a := 0x80, pc := 0x0602, flags := { noFlags with n := true } } [] = true :=
  by decide

/-- V43, V44. -/
theorem test_ora :
    ends { State.reset with a := 0x00 } [] [0x09, 0x00]
      { State.reset with a := 0x00, pc := 0x0602, flags := { noFlags with z := true } } [] = true ∧
    ends { State.reset with a := 0x01 } [] [0x09, 0x80]
      { State.reset with a := 0x81, pc := 0x0602, flags := { noFlags with n := true } } [] = true :=
  by decide

/-- V46, V47. -/
theorem test_eor :
    ends { State.reset with a := 0x5A } [] [0x49, 0x5A]
      { State.reset with a := 0x00, pc := 0x0602, flags := { noFlags with z := true } } [] = true ∧
    ends { State.reset with a := 0xAA } [] [0x49, 0xFF]
      { State.reset with a := 0x55, pc := 0x0602 } [] = true :=
  by decide

/-- V48, V49, V50. -/
theorem test_bit :
    ends { State.reset with a := 0x01 } [(0x0010, 0x40)] [0x24, 0x10]
      { State.reset with a := 0x01, pc := 0x0602, flags := { noFlags with v := true, z := true } } [] = true ∧
    ends { State.reset with a := 0xFF } [(0x0300, 0xC0)] [0x2C, 0x00, 0x03]
      { State.reset with a := 0xFF, pc := 0x0603, flags := { noFlags with n := true, v := true } } [] = true ∧
    ends { State.reset with a := 0x00, flags := { noFlags with c := true } } [(0x0010, 0xFF)] [0x24, 0x10]
      { State.reset with a := 0x00, pc := 0x0602,
                         flags := { noFlags with n := true, v := true, z := true, c := true } } [] = true :=
  by decide

/-- V51, V52, V54. -/
theorem test_asl :
    ends { State.reset with a := 0x81 } [] [0x0A]
      { State.reset with a := 0x02, pc := 0x0601, flags := { noFlags with c := true } } [] = true ∧
    ends { State.reset with a := 0x80 } [] [0x0A]
      { State.reset with a := 0x00, pc := 0x0601, flags := { noFlags with z := true, c := true } } [] = true ∧
    ends State.reset [(0x0010, 0xFF)] [0x06, 0x10]
      { State.reset with pc := 0x0602, flags := { noFlags with n := true, c := true } } [(0x0010, 0xFE)] = true :=
  by decide

/-- V55, V56, V57. -/
theorem test_lsr :
    ends { State.reset with a := 0x01 } [] [0x4A]
      { State.reset with a := 0x00, pc := 0x0601, flags := { noFlags with z := true, c := true } } [] = true ∧
    ends { State.reset with a := 0xFF } [] [0x4A]
      { State.reset with a := 0x7F, pc := 0x0601, flags := { noFlags with c := true } } [] = true ∧
    ends State.reset [(0x0010, 0x02)] [0x46, 0x10]
      { State.reset with pc := 0x0602 } [(0x0010, 0x01)] = true :=
  by decide

/-- V58, V59, V61. -/
theorem test_rol :
    ends { State.reset with a := 0x80 } [] [0x2A]
      { State.reset with a := 0x00, pc := 0x0601, flags := { noFlags with z := true, c := true } } [] = true ∧
    ends { State.reset with a := 0x00, flags := { noFlags with c := true } } [] [0x2A]
      { State.reset with a := 0x01, pc := 0x0601 } [] = true ∧
    ends { State.reset with x := 0x01, flags := { noFlags with c := true } } [(0x0011, 0x81)] [0x36, 0x10]
      { State.reset with x := 0x01, pc := 0x0602, flags := { noFlags with c := true } } [(0x0011, 0x03)] = true :=
  by decide

/-- V62, V63, V65. -/
theorem test_ror :
    ends { State.reset with a := 0x01 } [] [0x6A]
      { State.reset with a := 0x00, pc := 0x0601, flags := { noFlags with z := true, c := true } } [] = true ∧
    ends { State.reset with a := 0x00, flags := { noFlags with c := true } } [] [0x6A]
      { State.reset with a := 0x80, pc := 0x0601, flags := { noFlags with n := true } } [] = true ∧
    ends { State.reset with flags := { noFlags with c := true } } [(0x0300, 0x02)] [0x6E, 0x00, 0x03]
      { State.reset with pc := 0x0603, flags := { noFlags with n := true } } [(0x0300, 0x81)] = true :=
  by decide

/-- V66, V67, V68. -/
theorem test_inc :
    ends { State.reset with flags := { noFlags with c := true } } [(0x0010, 0xFF)] [0xE6, 0x10]
      { State.reset with pc := 0x0602, flags := { noFlags with z := true, c := true } } [(0x0010, 0x00)] = true ∧
    ends State.reset [(0x0010, 0x7F)] [0xE6, 0x10]
      { State.reset with pc := 0x0602, flags := { noFlags with n := true } } [(0x0010, 0x80)] = true ∧
    ends { State.reset with x := 0x02 } [(0x0301, 0x09)] [0xFE, 0xFF, 0x02]
      { State.reset with x := 0x02, pc := 0x0603 } [(0x0301, 0x0A)] = true :=
  by decide

/-- V69, V70. -/
theorem test_dec :
    ends State.reset [] [0xCE, 0x00, 0x03]
      { State.reset with pc := 0x0603, flags := { noFlags with n := true } } [(0x0300, 0xFF)] = true ∧
    ends State.reset [(0x0010, 0x01)] [0xC6, 0x10]
      { State.reset with pc := 0x0602, flags := { noFlags with z := true } } [(0x0010, 0x00)] = true :=
  by decide

/-- V71, V72. -/
theorem test_inx :
    ends { State.reset with x := 0xFF } [] [0xE8]
      { State.reset with x := 0x00, pc := 0x0601, flags := { noFlags with z := true } } [] = true ∧
    ends { State.reset with x := 0x7F } [] [0xE8]
      { State.reset with x := 0x80, pc := 0x0601, flags := { noFlags with n := true } } [] = true :=
  by decide

/-- V73, V74. -/
theorem test_iny :
    ends { State.reset with y := 0xFF } [] [0xC8]
      { State.reset with y := 0x00, pc := 0x0601, flags := { noFlags with z := true } } [] = true ∧
    ends { State.reset with y := 0x00 } [] [0xC8]
      { State.reset with y := 0x01, pc := 0x0601 } [] = true :=
  by decide

/-- V75, V76. -/
theorem test_dex :
    ends { State.reset with x := 0x00 } [] [0xCA]
      { State.reset with x := 0xFF, pc := 0x0601, flags := { noFlags with n := true } } [] = true ∧
    ends { State.reset with x := 0x01 } [] [0xCA]
      { State.reset with x := 0x00, pc := 0x0601, flags := { noFlags with z := true } } [] = true :=
  by decide

/-- V77, V78. -/
theorem test_dey :
    ends { State.reset with y := 0x00 } [] [0x88]
      { State.reset with y := 0xFF, pc := 0x0601, flags := { noFlags with n := true } } [] = true ∧
    ends { State.reset with y := 0x01 } [] [0x88]
      { State.reset with y := 0x00, pc := 0x0601, flags := { noFlags with z := true } } [] = true :=
  by decide

/-- V79, V80. -/
theorem test_tax :
    ends { State.reset with a := 0x80 } [] [0xAA]
      { State.reset with a := 0x80, x := 0x80, pc := 0x0601, flags := { noFlags with n := true } } [] = true ∧
    ends { State.reset with a := 0x00, x := 0x12 } [] [0xAA]
      { State.reset with a := 0x00, x := 0x00, pc := 0x0601, flags := { noFlags with z := true } } [] = true :=
  by decide

/-- V81. -/
theorem test_tay :
    ends { State.reset with a := 0x05 } [] [0xA8]
      { State.reset with a := 0x05, y := 0x05, pc := 0x0601 } [] = true :=
  by decide

/-- V82, V83. -/
theorem test_txa :
    ends { State.reset with x := 0xFF } [] [0x8A]
      { State.reset with a := 0xFF, x := 0xFF, pc := 0x0601, flags := { noFlags with n := true } } [] = true ∧
    ends { State.reset with a := 0x44, x := 0x00 } [] [0x8A]
      { State.reset with a := 0x00, x := 0x00, pc := 0x0601, flags := { noFlags with z := true } } [] = true :=
  by decide

/-- V84. -/
theorem test_tya :
    ends { State.reset with y := 0x10 } [] [0x98]
      { State.reset with a := 0x10, y := 0x10, pc := 0x0601 } [] = true :=
  by decide

/-- V85, V86. -/
theorem test_tsx :
    ends State.reset [] [0xBA]
      { State.reset with x := 0xFF, pc := 0x0601, flags := { noFlags with n := true } } [] = true ∧
    ends { State.reset with sp := 0x00 } [] [0xBA]
      { State.reset with sp := 0x00, pc := 0x0601, flags := { noFlags with z := true } } [] = true :=
  by decide

/-- V87, V88. -/
theorem test_txs :
    ends { State.reset with x := 0x80 } [] [0x9A]
      { State.reset with x := 0x80, sp := 0x80, pc := 0x0601 } [] = true ∧
    ends { State.reset with x := 0x00 } [] [0x9A]
      { State.reset with x := 0x00, sp := 0x00, pc := 0x0601 } [] = true :=
  by decide

/-- V89, V90. -/
theorem test_pha :
    ends { State.reset with a := 0x42 } [] [0x48]
      { State.reset with a := 0x42, sp := 0xFE, pc := 0x0601 } [(0x01FF, 0x42)] = true ∧
    ends { State.reset with a := 0x42, sp := 0x00 } [] [0x48]
      { State.reset with a := 0x42, sp := 0xFF, pc := 0x0601 } [(0x0100, 0x42)] = true :=
  by decide

/-- V91, V92, V93. -/
theorem test_php :
    ends State.reset [] [0x08]
      { State.reset with sp := 0xFE, pc := 0x0601 } [(0x01FF, 0x20)] = true ∧
    ends { State.reset with flags := { noFlags with n := true, c := true } } [] [0x08]
      { State.reset with sp := 0xFE, pc := 0x0601,
                         flags := { noFlags with n := true, c := true } } [(0x01FF, 0xA1)] = true ∧
    ends { State.reset with flags := { noFlags with v := true, b := true, d := true, i := true, z := true } } []
       [0x08]
      { State.reset with sp := 0xFE, pc := 0x0601,
                         flags := { noFlags with v := true, b := true, d := true, i := true, z := true } } [(0x01FF, 0x7E)] = true :=
  by decide

/-- V94, V95. -/
theorem test_pla :
    ends { State.reset with sp := 0xFE } [(0x01FF, 0x00)] [0x68]
      { State.reset with sp := 0xFF, pc := 0x0601, flags := { noFlags with z := true } } [] = true ∧
    ends { State.reset with sp := 0xFE } [(0x01FF, 0x80)] [0x68]
      { State.reset with a := 0x80, sp := 0xFF, pc := 0x0601, flags := { noFlags with n := true } } [] = true :=
  by decide

/-- V97, V98, V99, V100. -/
theorem test_plp :
    ends { State.reset with sp := 0xFE } [(0x01FF, 0x83)] [0x28]
      { State.reset with sp := 0xFF, pc := 0x0601,
                         flags := { noFlags with n := true, z := true, c := true } } [] = true ∧
    ends { State.reset with sp := 0xFE } [(0x01FF, 0xFF)] [0x28]
      { State.reset with sp := 0xFF, pc := 0x0601,
                         flags := { noFlags with n := true, v := true, b := true, d := true, i := true, z := true, c := true } } [] = true ∧
    ends { State.reset with sp := 0xFE, flags := { noFlags with n := true, c := true } } [(0x01FF, 0x20)] [0x28]
      { State.reset with sp := 0xFF, pc := 0x0601 } [] = true ∧
    ends { State.reset with sp := 0xFE } [(0x01FF, 0x10)] [0x28]
      { State.reset with sp := 0xFF, pc := 0x0601, flags := { noFlags with b := true } } [] = true :=
  by decide

/-- V101. -/
theorem test_bpl :
    ends State.reset [] [0x10, 0x02]
      { State.reset with pc := 0x0604 } [] = true :=
  by decide

/-- V102. -/
theorem test_bmi :
    ends State.reset [] [0x30, 0x02]
      { State.reset with pc := 0x0602 } [] = true :=
  by decide

/-- V103. -/
theorem test_bvc :
    ends { State.reset with pc := 0x0610 } [] [0x50, 0xF0]
      { State.reset with pc := 0x0602 } [] = true :=
  by decide

/-- V104. -/
theorem test_bvs :
    ends { State.reset with flags := { noFlags with v := true } } [] [0x70, 0x7F]
      { State.reset with pc := 0x0681, flags := { noFlags with v := true } } [] = true :=
  by decide

/-- V105. -/
theorem test_bcc :
    ends State.reset [] [0x90, 0x80]
      { State.reset with pc := 0x0582 } [] = true :=
  by decide

/-- V106. -/
theorem test_bcs :
    ends { State.reset with flags := { noFlags with c := true } } [] [0xB0, 0x00]
      { State.reset with pc := 0x0602, flags := { noFlags with c := true } } [] = true :=
  by decide

/-- V107, V110. -/
theorem test_bne :
    ends { State.reset with pc := 0x0604 } [] [0xD0, 0xFB]
      { State.reset with pc := 0x0601 } [] = true ∧
    ends State.reset [] [0xD0, 0xFE]
      State.reset [] = true :=
  by decide

/-- V108, V109. -/
theorem test_beq :
    ends { State.reset with pc := 0xFFF0, flags := { noFlags with z := true } } [] [0xF0, 0x7F]
      { State.reset with pc := 0x0071, flags := { noFlags with z := true } } [] = true ∧
    ends { State.reset with pc := 0xFFF0 } [] [0xF0, 0x7F]
      { State.reset with pc := 0xFFF2 } [] = true :=
  by decide

/-- V111, V112, V113. -/
theorem test_jmp :
    ends { State.reset with pc := 0x0700 } [] [0x4C, 0x00, 0x06]
      State.reset [] = true ∧
    ends State.reset [(0x0010, 0x34), (0x0011, 0x12)] [0x6C, 0x10, 0x00]
      { State.reset with pc := 0x1234 } [] = true ∧
    ends State.reset [(0x02FF, 0x00), (0x0300, 0x07), (0x0200, 0x09)] [0x6C, 0xFF, 0x02]
      { State.reset with pc := 0x0700 } [] = true :=
  by decide

/-- V114, V115. -/
theorem test_jsr :
    ends State.reset [] [0x20, 0x10, 0x06]
      { State.reset with sp := 0xFD, pc := 0x0610 } [(0x01FE, 0x02), (0x01FF, 0x06)] = true ∧
    ends { State.reset with sp := 0x00 } [] [0x20, 0x10, 0x06]
      { State.reset with sp := 0xFE, pc := 0x0610 } [(0x0100, 0x06), (0x01FF, 0x02)] = true :=
  by decide

/-- V116, V117. -/
theorem test_rts :
    ends { State.reset with sp := 0xFD } [(0x01FE, 0x02), (0x01FF, 0x06)] [0x60]
      { State.reset with sp := 0xFF, pc := 0x0603 } [] = true ∧
    ends State.reset [(0x0100, 0x0F), (0x0101, 0x07)] [0x60]
      { State.reset with sp := 0x01, pc := 0x0710 } [] = true :=
  by decide

/-- V118, V119. -/
theorem test_brk :
    ends State.reset [] [0x00]
      { State.reset with pc := 0x0601, flags := { noFlags with b := true }, rs := .halted } [] = true ∧
    ends { State.reset with a := 0x12, flags := { noFlags with c := true } } [] [0x00]
      { State.reset with a := 0x12, pc := 0x0601,
                         flags := { noFlags with b := true, c := true }, rs := .halted } [] = true :=
  by decide

/-- V120. -/
theorem test_clc :
    ends { State.reset with flags := { noFlags with c := true } } [] [0x18]
      { State.reset with pc := 0x0601 } [] = true :=
  by decide

/-- V121. -/
theorem test_sec :
    ends State.reset [] [0x38]
      { State.reset with pc := 0x0601, flags := { noFlags with c := true } } [] = true :=
  by decide

/-- V122. -/
theorem test_cli :
    ends { State.reset with flags := { noFlags with i := true } } [] [0x58]
      { State.reset with pc := 0x0601 } [] = true :=
  by decide

/-- V123. -/
theorem test_sei :
    ends State.reset [] [0x78]
      { State.reset with pc := 0x0601, flags := { noFlags with i := true } } [] = true :=
  by decide

/-- V124. -/
theorem test_clv :
    ends { State.reset with flags := { noFlags with v := true } } [] [0xB8]
      { State.reset with pc := 0x0601 } [] = true :=
  by decide

/-- V125. -/
theorem test_cld :
    ends { State.reset with flags := { noFlags with d := true } } [] [0xD8]
      { State.reset with pc := 0x0601 } [] = true :=
  by decide

/-- V126. -/
theorem test_sed :
    ends State.reset [] [0xF8]
      { State.reset with pc := 0x0601, flags := { noFlags with d := true } } [] = true :=
  by decide

/-- V127. -/
theorem test_nop :
    ends State.reset [] [0xEA]
      { State.reset with pc := 0x0601 } [] = true :=
  by decide

/-! ### Switches (S1, S3 to S7) -/

theorem test_zp_index_no_wrap :
    ends { State.reset with x := 0x20, cfg := { zpIndexWrap := false } } [(0x0110, 0x99), (0x0010, 0x11)] [0xB5, 0xF0]
      { State.reset with a := 0x99, x := 0x20, pc := 0x0602, flags := { noFlags with n := true },
                         cfg := { zpIndexWrap := false } } [] = true ∧
    ends { State.reset with y := 0x01, cfg := { zpIndexWrap := false } }
      [(0x00FF, 0x00), (0x0000, 0x03), (0x0100, 0x04), (0x0301, 0x5A), (0x0401, 0x6B)] [0xB1, 0xFF]
      { State.reset with a := 0x6B, y := 0x01, pc := 0x0602, cfg := { zpIndexWrap := false } } [] = true := by decide

theorem test_jmp_page_wrap :
    ends { State.reset with cfg := { jmpIndPageWrap := true } } [(0x02FF, 0x00), (0x0300, 0x07), (0x0200, 0x09)]
      [0x6C, 0xFF, 0x02] { State.reset with pc := 0x0900, cfg := { jmpIndPageWrap := true } } [] = true := by decide

theorem test_jsr_bias_3 :
    ends { State.reset with cfg := { jsrRetBias := 3 } } [] [0x20, 0x10, 0x06]
      { State.reset with sp := 0xFD, pc := 0x0610, cfg := { jsrRetBias := 3 } } [(0x01FF, 0x06), (0x01FE, 0x03)] = true ∧
    ends { State.reset with sp := 0xFD, cfg := { jsrRetBias := 3 } } [(0x01FE, 0x03), (0x01FF, 0x06)] [0x60]
      { State.reset with pc := 0x0603, cfg := { jsrRetBias := 3 } } [] = true := by decide

theorem test_plp_b_halts :
    ends { State.reset with sp := 0xFE, cfg := { plpBHalts := true } } [(0x01FF, 0x10)] [0x28]
      { State.reset with pc := 0x0601, flags := { noFlags with b := true }, rs := .halted,
                         cfg := { plpBHalts := true } } [] = true := by decide

/-- R268's form: status 0x81, then PC low and high, with no increment. -/
theorem test_rti_switch :
    ends { State.reset with sp := 0xFC, cfg := { rtiImplemented := true } }
      [(0x01FD, 0x81), (0x01FE, 0x34), (0x01FF, 0x12)] [0x40]
      { State.reset with pc := 0x1234, flags := { noFlags with n := true, c := true },
                         cfg := { rtiImplemented := true } } [] = true := by decide

/-! ### Unknown opcodes (V128 to V132) -/

theorem test_unknown_opcodes_fault :
    ([0x02, 0x40, 0xFF, 0x1A, 0x80] : List Byte).all (fun op =>
      ends { State.reset with a := 0x55 } [] [op, 0x01, 0x02] { State.reset with a := 0x55, rs := .faulted op } []) = true := by
  decide

/-! ### Device cells and the engine (E1, E3 to E9) -/

/-- What one step with the draw `r` and the keypress `k` leaves in A and at an address. -/
def after (r : Byte) (k : Option Byte) (s : State) (bytes : List Byte) (a : Addr) : Option (Byte × Byte) :=
  match cycle r k (start s [] bytes) with
  | .next t => some (t.a, t.readByte a)
  | _ => none

theorem test_lda_reads_the_draw : after 0x9C none State.reset [0xA5, 0xFE] 0xFE = some (0x9C, 0x9C) := by decide

theorem test_store_over_the_draw_lasts_one_step :
    after 0x9C none { State.reset with a := 0x55 } [0x85, 0xFE] 0xFE = some (0x55, 0x55) ∧
    after 0x21 none { State.reset with randCell := 0x55 } [0xA5, 0xFE] 0xFE = some (0x21, 0x21) := by decide

theorem test_inc_of_the_draw_wraps : after 0xFF none State.reset [0xE6, 0xFE] 0xFE = some (0x00, 0x00) := by decide

theorem test_keypress_before_the_step :
    after 0 none State.reset [0xA5, 0xFF] 0xFF = some (0x00, 0x00) ∧
    after 0 (some 0x61) State.reset [0xA5, 0xFF] 0xFF = some (0x61, 0x61) := by decide

theorem test_last_framebuffer_cell :
    after 0 none { State.reset with a := 0x0E } [0x8D, 0xFF, 0x05] 0x05FF = some (0x0E, 0x0E) := by decide

/-- R64, R263: the collaborator reads a stored cell of a running or halted run, and no cell of a faulted one. -/
theorem test_framebuffer_view :
    let s : State := { State.reset with mem := [(0x0200, 0x05)] }
    s.framebufferByte 0 = some 0x05 ∧ ({ s with rs := .halted } : State).framebufferByte 0 = some 0x05 ∧
    ({ s with rs := .faulted 0x02 } : State).framebufferByte 0 = none ∧ s.framebufferByte 1024 = none := by decide

theorem test_self_modifying_store :
    after 0 none { State.reset with a := 0xEA, pc := 0x0602 } [0x8D, 0x05, 0x06, 0x00] 0x0605 = some (0xEA, 0xEA) := by
  decide

theorem test_halted_and_faulted_do_not_step :
    step { State.reset with rs := .halted } = .fault .halted ∧
    step { State.reset with rs := .faulted 0x02 } = .fault (.unknownInstruction 0x02) := ⟨rfl, rfl⟩

/-- E10, W6: the program `00`, its first step and its snapshot. -/
theorem test_boot_then_brk :
    (match boot {} [0x00] with
      | .next s =>
        match cycle 0 none s with
        | .next t => t.snapshot == some ⟨0, 0, 0, 0xFF, 0x0601, { noFlags with b := true }⟩
        | _ => false
      | _ => false) = true := by decide

/-! ### The packed status byte (K1 to K6) -/

theorem test_pack :
    noFlags.pack = 0x20 ∧ Flags.pack { noFlags with n := true, c := true } = 0xA1 ∧
    Flags.pack ⟨true, true, true, true, true, true, true⟩ = 0xFF ∧
    Flags.pack { noFlags with b := true } = 0x30 := by decide

theorem test_unpack :
    Flags.unpack 0x20 = noFlags ∧ Flags.unpack 0xA1 = { noFlags with n := true, c := true } ∧
    Flags.unpack 0xDF = ⟨true, true, true, true, true, true, true⟩ ∧ Flags.unpack 0x00 = noFlags ∧
    Flags.unpack 0x30 = { noFlags with b := true } := by decide

/-! ### The host's two questions -/

theorem test_decode_table_word :
    decodeTableWord 8 0xA9 = some (.ldaImm 0) ∧ decodeTableWord 16 0x80A9 = some (.ldaImm 0x80) ∧
    decodeTableWord 24 0x12348D = some (.staAbs 0x1234) ∧ decodeTableWord 8 0xFFE8 = some .inx ∧
    decodeTableWord 8 0x02 = none := by decide

theorem test_with_fetch_word :
    (∃ t, step (State.reset.withFetchWord 16 0x80A9) = .next t ∧ t.a = 0x80 ∧ t.pc = 0x0602) ∧
    (∃ t, step (State.reset.withFetchWord 8 0xE8) = .next t ∧ t.x = 0x01 ∧ t.pc = 0x0601) :=
  ⟨⟨_, rfl, rfl, rfl⟩, ⟨_, rfl, rfl, rfl⟩⟩

/-! ### Witnesses: for each obligation with hypotheses, values that meet them -/

/-- The run state and switches most hypotheses ask for, with the unknown opcode 0x02 at PC. -/
def onUnknown : State := State.reset.writeByte 0x0600 0x02

/-- The opcode 0x40 at PC, at the default of the switch of R268. -/
def on40 : State := State.reset.writeByte 0x0600 0x40

/-- The switch of R268 on, with the unknown opcode 0x02 at PC. -/
def onUnknownRti : State := { State.reset with cfg := { rtiImplemented := true } }.writeByte 0x0600 0x02

/-- The switch of R268 on, with 0x40 at PC. -/
def onRti : State := { State.reset with cfg := { rtiImplemented := true } }.writeByte 0x0600 0x40

theorem witness_ResetGivesStartValues : State.resetWith Config.default = State.reset := rfl

/-- The longest image that fits, and one byte more; an address inside, below and above. -/
theorem witness_BootCopiesImageOverZeroedMemory :
    (0xFFFE#16).toNat + [0xEA#8, 0x00].length ≤ 0x10000 ∧ 1 < [0xEA#8, 0x00].length ∧
    (0xFFFD#16).toNat < (0xFFFE#16).toNat ∧ (0x0600#16).toNat + [0x00#8].length ≤ (0x0601#16).toNat ∧
    0x10000 < (0xFFFE#16).toNat + [0xEA#8, 0x00, 0x00].length := by decide

theorem witness_DecodeInvertsEncode : (Instr.ldaAbs 0xFFFF).wf = true ∧ Instr.brk.wf = true := by decide

theorem witness_DecodedBytesAreItsEncoding : decode [0xAD, 0x34, 0x12, 0xFF] = .ok (.ldaAbs 0x1234, [0xFF]) := rfl

theorem witness_OpcodesAndAdmittedPairsCorrespond : decodeOpcode 0xA9 = some (.lda, .imm, 2) := rfl

theorem witness_SampleWordsDecode : ([0xE9, 0xFF], .sbcImm 0xFF) ∈ sampleWords 0xFF 0x00 := by decide

/-- Offsets 127 and -128, taken at `LOAD_ADDR + q`, and one beyond each. -/
theorem witness_ResolvedBranchReachesItsLabel :
    resolveRelative 129 (0 + 1) = some 0x7F ∧ resolveRelative 0 (126 + 1) = some 0x80 ∧
    State.reset.pc = State.reset.cfg.loadAddr + BitVec.ofNat 16 0 ∧
    (.bne 0x7F, true) ∈ branchForms State.reset 0x7F ∧ (.bcc 0x80, true) ∈ branchForms State.reset 0x80 ∧
    resolveRelative 130 (0 + 1) = none ∧ resolveRelative 0 (127 + 1) = none := by decide

theorem witness_AssemblerEmitsTheEncoding : formBytes .lda .abs [0x34, 0x12] = some [0xAD, 0x34, 0x12] := rfl

/-- The last two bytes of a buffer, and the last label offset that fits. -/
theorem witness_AbsoluteReferencesResolveToTheLabel :
    (⟨1, false, 1, ['m']⟩ : PendingRef).relative = false ∧ findName ['m'] [(['m'], 0xF9FF)] = some 0xF9FF ∧
    Config.default.loadAddr.toNat + 0xF9FF < 0x10000 ∧ 1 + 2 ≤ [0x4C#8, 0x00, 0x00].length := by decide

/-- The second clause also with the switch of R268 on, at another opcode. -/
theorem witness_StepRunsTheFetchedInstruction :
    (∃ t, step State.reset = .next t) ∧ State.reset.rs = .running ∧ NoRti State.reset ∧
    fetched (begun State.reset) = some .brk ∧
    onUnknownRti.rs = .running ∧ NoRti onUnknownRti ∧ fetched (begun onUnknownRti) = none :=
  ⟨⟨_, rfl⟩, rfl, .inl rfl, rfl, rfl, .inr (by decide), rfl⟩

/-- At the default, where 0x40 itself is unknown, and with the switch of R268 on. -/
theorem witness_UnknownOpcodeFaultsTheRun :
    on40.rs = .running ∧ NoRti on40 ∧ (begun on40).readByte on40.pc = 0x40 ∧ decodeOpcode 0x40 = none ∧
    onUnknownRti.rs = .running ∧ NoRti onUnknownRti ∧ (begun onUnknownRti).readByte onUnknownRti.pc = 0x02 ∧
    decodeOpcode 0x02 = none := ⟨rfl, .inl rfl, rfl, rfl, rfl, .inr (by decide), rfl, rfl⟩

theorem witness_TerminalStatesHaveNoStep :
    ({ State.reset with rs := .halted } : State).rs = .halted ∧
    ({ State.reset with rs := .faulted 0x02 } : State).rs = .faulted 0x02 ∧ State.reset.rs = .running :=
  ⟨rfl, rfl, rfl⟩

theorem witness_OnlyUnknownOpcodesFault :
    onUnknown.rs = .running ∧ ∃ t, step onUnknown = .next t ∧ t.rs = .faulted 0x02 := ⟨rfl, _, rfl, rfl⟩

theorem witness_RunEndsOnlyByBrkOrUnknownOpcode :
    State.reset.rs = .running ∧ NoRti State.reset ∧ onUnknownRti.rs = .running ∧ NoRti onUnknownRti :=
  ⟨rfl, .inl rfl, rfl, .inr (by decide)⟩

theorem witness_StepKeepsStateWellFormed : State.reset.wf ∧ ∃ t, step State.reset = .next t :=
  ⟨⟨Memory.wf_nil, nofun, by decide⟩, _, rfl⟩

theorem witness_StepKeepsParameters : ∃ t, step State.reset = .next t := ⟨_, rfl⟩

theorem witness_RandomCellHoldsTheStepsDraw :
    (0x0000 : Addr) ≠ State.reset.cfg.randAddr ∧ (0x0000 : Addr) ≠ State.reset.cfg.keyAddr ∧
    (∃ t, exec (.staZp 0x00) (beginCycle 0x9C none State.reset) = .next t) ∧
    State.reset.cfg.randAddr ∉ storedAddrs (.staZp 0x00) (beginCycle 0x9C none State.reset) :=
  ⟨by decide, by decide, ⟨_, rfl⟩, by decide⟩

theorem witness_KeypressCellHoldsTheLastWrite : State.reset.cfg.keyAddr ≠ State.reset.cfg.randAddr := by decide

/-- A program that writes NOP over the byte after its store. -/
theorem witness_StoreIsSeenByTheNextFetch :
    (0x0603 : Addr) = State.reset.pc + 3 ∧ (0x0603 : Addr) ≠ State.reset.cfg.randAddr ∧
    (0x0603 : Addr) ≠ State.reset.cfg.keyAddr ∧ State.reset.rs = .running ∧
    (∃ t, exec (.staAbs 0x0603) { State.reset with a := 0xEA } = .next t ∧
      decodeInstr 0xEA ((begun t).readByte 0x0604) ((begun t).readByte 0x0605) = some .nop) :=
  ⟨by decide, by decide, by decide, rfl, _, rfl, rfl⟩

theorem witness_RtiSwitchRunsTheStatedForm :
    onRti.rs = .running ∧ onRti.cfg.rtiImplemented = true ∧ (begun onRti).readByte onRti.pc = 0x40 := ⟨rfl, rfl, rfl⟩

theorem witness_ReadReturnsTheLastWrite : (0x00FF : Addr) ≠ 0x00FE := by decide

/-- A form that stores one byte, one that stores two at the wrap of SP, and one that stores none. -/
theorem witness_MemoryChangesOnlyWhereStored :
    (∃ t, exec (.incZp 0x10) State.reset = .next t) ∧ 0x0011 ∉ storedAddrs (.incZp 0x10) State.reset ∧
    (∃ t, exec (.jsr 0x1234) { State.reset with sp := 0x00 } = .next t) ∧
    0x01FE ∉ storedAddrs (.jsr 0x1234) { State.reset with sp := 0x00 } ∧
    (∃ t, exec (.cmpZp 0x10) State.reset = .next t) ∧ 0x0010 ∉ storedAddrs (.cmpZp 0x10) State.reset :=
  ⟨⟨_, rfl⟩, by decide, ⟨_, rfl⟩, by decide, ⟨_, rfl⟩, by decide⟩

theorem witness_FramebufferIsOrdinaryMemory :
    State.reset.cfg.wf = true ∧ 1023 < 1024 ∧ 0 < 1024 ∧ (0 : Nat) ≠ 1023 ∧
    ∀ op, State.reset.rs ≠ .faulted op := ⟨by decide, by decide, by decide, by decide, fun _ => nofun⟩

/-- Two faulted states of one opcode that differ in a register and in the framebuffer. -/
theorem witness_FaultedRunReportsNothingElse :
    let s : State := { State.reset with rs := .faulted 0x02 }
    let t : State := { State.reset with rs := .faulted 0x02, a := 0x01, mem := [(0x0200, 0x05)] }
    s.rs = .faulted 0x02 ∧ t.rs = .faulted 0x02 ∧ s.readByte 0x0200 ≠ t.readByte 0x0200 := ⟨rfl, rfl, by decide⟩

theorem witness_FlagsChangeOnlyByTheirWriters :
    (∃ t, exec .nop State.reset = .next t) ∧ Instr.nop.mnemonic ∉ nzWriters ∧ Instr.nop.mnemonic ∉ vWriters ∧
    Instr.nop.mnemonic ∉ bWriters ∧ Instr.nop.mnemonic ∉ dWriters ∧ Instr.nop.mnemonic ∉ iWriters ∧
    Instr.nop.mnemonic ∉ cWriters :=
  ⟨⟨_, rfl⟩, by decide, by decide, by decide, by decide, by decide, by decide⟩

theorem witness_RegistersChangeOnlyByTheirWriters :
    (∃ t, exec (.aslZp 0x10) State.reset = .next t) ∧ writesA (.aslZp 0x10) = false ∧
    (Instr.aslZp 0x10).mnemonic ∉ xWriters ∧ (Instr.aslZp 0x10).mnemonic ∉ yWriters ∧
    (Instr.aslZp 0x10).mnemonic ∉ spWriters ∧ (Instr.aslZp 0x10).mnemonic ∉ ([.jmp, .jsr, .rts] : List Mnemonic) ∧
    (Instr.aslZp 0x10).mode ≠ .rel ∧ (Instr.aslZp 0x10).mnemonic ≠ .brk ∧ (Instr.aslZp 0x10).mnemonic ≠ .plp :=
  ⟨⟨_, rfl⟩, by decide, by decide, by decide, by decide, by decide, by decide, by decide, by decide⟩

theorem witness_DecimalAndInterruptFlagsHaveNoEffect :
    (Instr.adcImm 0x01).mnemonic ≠ .php ∧ (Instr.adcImm 0x01).mnemonic ∉ ([.plp, .cld, .sed] : List Mnemonic) ∧
    (Instr.adcImm 0x01).mnemonic ∉ ([.plp, .cli, .sei] : List Mnemonic) := by decide

theorem witness_EffectiveAddressesOfDirectModes :
    State.reset.cfg.zpIndexWrap = true ∧ (State.resetWith { zpIndexWrap := false }).cfg.zpIndexWrap = false := ⟨rfl, rfl⟩

/-- The pointer at the end of page zero, X = 0xFF, in each clause. -/
theorem witness_EffectiveAddressesOfIndirectModes :
    (0x00FE#16).toNat = ((0xFF#8).toNat + (0xFF#8).toNat) % 256 ∧ (0x00FF#16).toNat = ((0x00FE#16).toNat + 1) % 256 ∧
    (0x01FE#16).toNat = (0xFF#8).toNat + (0xFF#8).toNat ∧ (0x01FF#16).toNat = (0x01FE#16).toNat + 1 ∧
    (0x00FF#16).toNat = (0xFF#8).toNat ∧ (0x0000#16).toNat = ((0xFF#8).toNat + 1) % 256 ∧
    (0x0100#16).toNat = (0xFF#8).toNat + 1 ∧
    State.reset.cfg.zpIndexWrap = true ∧ (State.resetWith { zpIndexWrap := false }).cfg.zpIndexWrap = false := by decide

theorem witness_LoadsWriteTheOperandAndSetNZ :
    (.ldaIndy 0xFF, .mem (.indy 0xFF), 2) ∈ ldaForms 0xFF 0xFFFF ∧ (.ldxZpy 0xFF, .mem (.zpy 0xFF), 2) ∈ ldxForms 0xFF 0xFFFF ∧
    (.ldyAbsx 0xFFFF, .mem (.absx 0xFFFF), 3) ∈ ldyForms 0xFF 0xFFFF := by decide

theorem witness_StoresWriteTheRegister :
    (.staIndy 0xFF, .indy 0xFF, 2) ∈ staForms 0xFF 0xFFFF ∧ (.stxZpy 0xFF, .zpy 0xFF, 2) ∈ stxForms 0xFF 0xFFFF ∧
    (.styAbs 0xFFFF, .abs 0xFFFF, 3) ∈ styForms 0xFF 0xFFFF := by decide

theorem witness_AdcAddsThroughTheAdder : (.adcIndx 0xFF, .mem (.indx 0xFF), 2) ∈ adcForms 0xFF 0xFFFF := by decide

theorem witness_SbcAddsTheComplement : (.sbcImm 0xFF, .imm 0xFF, 2) ∈ sbcForms 0xFF 0xFFFF := by decide

theorem witness_ComparesSetTheFlags :
    (.cmpAbsy 0xFFFF, .mem (.absy 0xFFFF), 3) ∈ cmpForms 0xFF 0xFFFF ∧ (.cpxZp 0xFF, .mem (.zp 0xFF), 2) ∈ cpxForms 0xFF 0xFFFF ∧
    (.cpyImm 0xFF, .imm 0xFF, 2) ∈ cpyForms 0xFF 0xFFFF := by decide

theorem witness_LogicWritesAAndSetsNZ :
    (.andImm 0xFF, .imm 0xFF, 2) ∈ andForms 0xFF 0xFFFF ∧ (.oraZpx 0xFF, .mem (.zpx 0xFF), 2) ∈ oraForms 0xFF 0xFFFF ∧
    (.eorIndy 0xFF, .mem (.indy 0xFF), 2) ∈ eorForms 0xFF 0xFFFF := by decide

theorem witness_BitCopiesOperandBits : (.bitAbs 0xFFFF, .abs 0xFFFF, 3) ∈ bitForms 0xFF 0xFFFF := by decide

theorem witness_AccumulatorShiftsMoveOneBit : (7 : Nat) < 8 ∧ (0 : Nat) < 8 := by decide

theorem witness_MemoryShiftsWriteBack :
    (.aslZp 0x10, .zp 0x10, 2) ∈ aslForms 0x10 0xFFFF ∧ (.lsrZpx 0x10, .zpx 0x10, 2) ∈ lsrForms 0x10 0xFFFF ∧
    (.rolAbs 0xFFFF, .abs 0xFFFF, 3) ∈ rolForms 0x10 0xFFFF ∧ (.rorAbsx 0xFFFF, .absx 0xFFFF, 3) ∈ rorForms 0x10 0xFFFF ∧
    (0x00 : Byte) = State.reset.readByte (effAddr (.zp 0x10) State.reset) ∧ (0x00 : Byte) = (0x00 : Byte) <<< 1 ∧
    (0x00 : Byte) = ((0x00 : Byte) >>> 1) ||| BitVec.ofNat 8 (128 * flagNat State.reset.flags.c) := by decide

theorem witness_MemoryIncrementsWriteBack :
    (.incZp 0x10, .zp 0x10, 2) ∈ incForms 0x10 0xFFFF ∧ (.decAbsx 0xFFFF, .absx 0xFFFF, 3) ∈ decForms 0x10 0xFFFF ∧
    (0x01 : Byte).toNat = ((State.reset.readByte (effAddr (.zp 0x10) State.reset)).toNat + 1) % 256 ∧
    (0xFF : Byte).toNat = ((State.reset.readByte (effAddr (.absx 0xFFFF) State.reset)).toNat + 255) % 256 := by decide

theorem witness_PullsReadTheStackByte :
    (0x00 : Byte) = State.reset.readByte (stackAddr (State.reset.sp + 1)) := by decide

theorem witness_StackStaysInItsPageAndInverts : (0x00FF#16).toNat < 0x0100 ∧ 0x01FF < (0x0200#16).toNat := by decide

theorem witness_PhpThenPlpRestoresTheFlags :
    stackAddr State.reset.sp ≠ State.reset.cfg.randAddr ∧ stackAddr State.reset.sp ≠ State.reset.cfg.keyAddr ∧
    ∃ t, exec .php State.reset = .next t := ⟨by decide, by decide, _, rfl⟩

theorem witness_BranchesTestTheirFlag : (.bvs 0x80, false) ∈ branchForms State.reset 0x80 := by decide

/-- A pointer at the end of a page, where the two settings differ. -/
theorem witness_JmpSetsPC :
    State.reset.cfg.jmpIndPageWrap = false ∧ (0x0300#16).toNat = ((0x02FF#16).toNat + 1) % 65536 ∧
    (State.resetWith { jmpIndPageWrap := true }).cfg.jmpIndPageWrap = true ∧
    (0x0200#16).toNat = (0x02FF#16).toNat / 256 * 256 + ((0x02FF#16).toNat + 1) % 256 := by decide

theorem witness_JsrPushesTheReturnAddress :
    (0x06#8 ++ 0x02#8 : Addr) = State.reset.pc + State.reset.cfg.jsrRetBias := by decide

theorem witness_JsrThenRtsReturnsAfterTheCall :
    stackAddr State.reset.sp ≠ State.reset.cfg.randAddr ∧ stackAddr State.reset.sp ≠ State.reset.cfg.keyAddr ∧
    stackAddr (State.reset.sp - 1) ≠ State.reset.cfg.randAddr ∧
    stackAddr (State.reset.sp - 1) ≠ State.reset.cfg.keyAddr ∧ ∃ t, exec (.jsr 0x0610) State.reset = .next t :=
  ⟨by decide, by decide, by decide, by decide, _, rfl⟩

end Sys2Proof.Tests
end

section
/-! The flags D and I have no effect but through PHP (spec 10_state.md R34). One rule per shared operation says that it
commutes with overwriting D and I (`withDI`): no operand, register or other flag it computes with is one of the two, so
both orders build the same record. One lemma says what each instruction but PHP does to the overwritten
values. That an instruction leaves D and I needs no proof of its own: overwriting them with their own values changes
nothing. -/

namespace Sys2Proof.Machine

open Sys2Proof.Spec

/-- Running `f` commutes with overwriting D and I: it neither reads nor writes them. -/
def PassesDI (f : State → Result) : Prop :=
  ∀ ⦃s t : State⦄ (d k : Bool), f s = .next t → f (withDI s d k) = .next (withDI t d k)

/-- Overwriting D and I with the values they have changes nothing. -/
theorem withDI_own (s : State) : withDI s s.flags.d s.flags.i = s := rfl

section SharedOperations

variable (o : DataOperand) (m : MemOperand) (v : Byte) (c : Bool) (f : Byte → Bool → ShiftResult)

theorem lda_passesDI : PassesDI (lda o) := by
  rintro s _ d k ⟨⟩; rfl

theorem ldx_passesDI : PassesDI (ldx o) := by
  rintro s _ d k ⟨⟩; rfl

theorem ldy_passesDI : PassesDI (ldy o) := by
  rintro s _ d k ⟨⟩; rfl

theorem store_passesDI : PassesDI (store m v) := by
  rintro s _ d k ⟨⟩; rfl

theorem adc_passesDI : PassesDI (adc o) := by
  rintro s _ d k ⟨⟩; rfl

theorem sbc_passesDI : PassesDI (sbc o) := by
  rintro s _ d k ⟨⟩; rfl

theorem compareReg_passesDI : PassesDI (compareReg v o) := by
  rintro s _ d k ⟨⟩; rfl

theorem logicResult_passesDI : PassesDI (logicResult v o) := by
  rintro s _ d k ⟨⟩; rfl

theorem bitTest_passesDI : PassesDI (bitTest m) := by
  rintro s _ d k ⟨⟩; rfl

theorem shiftAcc_passesDI : PassesDI (shiftAcc f) := by
  rintro s _ d k ⟨⟩; rfl

theorem shiftMem_passesDI : PassesDI (shiftMem f m) := by
  rintro s _ d k ⟨⟩; rfl

theorem stepMem_passesDI : PassesDI (stepMem v m) := by
  rintro s _ d k ⟨⟩; rfl

theorem branch_passesDI : PassesDI (branch c v) := by
  cases c <;> rintro s _ d k ⟨⟩ <;> rfl

end SharedOperations

/-- The instructions that read or write D or I: PHP packs them, the other five write one or both. -/
def touchesDI : List Mnemonic := [.php, .plp, .cld, .sed, .cli, .sei]

theorem eq_of_mem_touchesDI {i : Instr} (hi : i.mnemonic ∈ touchesDI) :
    i = .php ∨ i = .plp ∨ i = .cld ∨ i = .sed ∨ i = .cli ∨ i = .sei := by
  cases i <;> simp [Instr.mnemonic, Instr.form, touchesDI] at hi ⊢

/-- Every other instruction commutes with overwriting D and I. -/
theorem exec_passesDI {i : Instr} (hi : i.mnemonic ∉ touchesDI) : PassesDI (exec i) := by
  intro s t d k h
  cases i
  case php | plp | cld | sed | cli | sei => exact absurd (by decide) hi
  case ldaImm | ldaZp | ldaZpx | ldaAbs | ldaAbsx | ldaAbsy | ldaIndx | ldaIndy => exact lda_passesDI _ d k h
  case ldxImm | ldxZp | ldxZpy | ldxAbs | ldxAbsy => exact ldx_passesDI _ d k h
  case ldyImm | ldyZp | ldyZpx | ldyAbs | ldyAbsx => exact ldy_passesDI _ d k h
  case staZp | staZpx | staAbs | staAbsx | staAbsy | staIndx | staIndy | stxZp | stxZpy | stxAbs | styZp |
    styZpx | styAbs => exact store_passesDI _ _ d k h
  case adcImm | adcZp | adcZpx | adcAbs | adcAbsx | adcAbsy | adcIndx | adcIndy => exact adc_passesDI _ d k h
  case sbcImm | sbcZp | sbcZpx | sbcAbs | sbcAbsx | sbcAbsy | sbcIndx | sbcIndy => exact sbc_passesDI _ d k h
  case cmpImm | cmpZp | cmpZpx | cmpAbs | cmpAbsx | cmpAbsy | cmpIndx | cmpIndy | cpxImm | cpxZp | cpxAbs |
    cpyImm | cpyZp | cpyAbs => exact compareReg_passesDI _ _ d k h
  case andImm | andZp | andZpx | andAbs | andAbsx | andAbsy | andIndx | andIndy | oraImm | oraZp | oraZpx |
    oraAbs | oraAbsx | oraAbsy | oraIndx | oraIndy | eorImm | eorZp | eorZpx | eorAbs | eorAbsx | eorAbsy |
    eorIndx | eorIndy => exact logicResult_passesDI _ _ d k h
  case bitZp | bitAbs => exact bitTest_passesDI _ d k h
  case aslAcc | lsrAcc | rolAcc | rorAcc => exact shiftAcc_passesDI _ d k h
  case aslZp | aslZpx | aslAbs | aslAbsx | lsrZp | lsrZpx | lsrAbs | lsrAbsx | rolZp | rolZpx | rolAbs |
    rolAbsx | rorZp | rorZpx | rorAbs | rorAbsx => exact shiftMem_passesDI _ _ d k h
  case incZp | incZpx | incAbs | incAbsx | decZp | decZpx | decAbs | decAbsx => exact stepMem_passesDI _ _ d k h
  case bpl | bmi | bvc | bvs | bcc | bcs | bne | beq => exact branch_passesDI _ _ d k h
  -- What is left has a meaning of its own, with no shared operation.
  all_goals cases h; rfl

/-- What an instruction but PHP does from a state with other values of D and I: it ends in the same state but for D
and I, and carries over each of the two that it does not write. -/
theorem exec_withDI {i : Instr} {s t : State} (hi : i.mnemonic ≠ .php) (h : exec i s = .next t) (d k : Bool) :
    ∃ d' k', exec i (withDI s d k) = .next (withDI t d' k') ∧
      (i.mnemonic ∉ ([.plp, .cld, .sed] : List Mnemonic) → d' = d) ∧
      (i.mnemonic ∉ ([.plp, .cli, .sei] : List Mnemonic) → k' = k) := by
  by_cases hw : i.mnemonic ∈ touchesDI
  · rcases eq_of_mem_touchesDI hw with rfl | rfl | rfl | rfl | rfl | rfl
    case inl => exact absurd rfl hi
    · -- PLP overwrites D and I itself, so it ends in `t` whatever they were.
      exact ⟨t.flags.d, t.flags.i, h, fun hn => absurd (by decide) hn, fun hn => absurd (by decide) hn⟩
    · cases h; exact ⟨false, k, rfl, fun hn => absurd (by decide) hn, fun _ => rfl⟩
    · cases h; exact ⟨true, k, rfl, fun hn => absurd (by decide) hn, fun _ => rfl⟩
    · cases h; exact ⟨d, false, rfl, fun _ => rfl, fun hn => absurd (by decide) hn⟩
    · cases h; exact ⟨d, true, rfl, fun _ => rfl, fun hn => absurd (by decide) hn⟩
  · exact ⟨d, k, exec_passesDI hw d k h, fun _ => rfl, fun _ => rfl⟩

/-- An instruction but PHP leaves each of D and I that it is no writer of. -/
theorem exec_keepsDI {i : Instr} {s t : State} (hi : i.mnemonic ≠ .php) (h : exec i s = .next t) :
    (i.mnemonic ∉ ([.plp, .cld, .sed] : List Mnemonic) → t.flags.d = s.flags.d) ∧
    (i.mnemonic ∉ ([.plp, .cli, .sei] : List Mnemonic) → t.flags.i = s.flags.i) := by
  obtain ⟨d', k', hu, hd, hk⟩ := exec_withDI hi h s.flags.d s.flags.i
  rw [withDI_own, h] at hu
  have ht : t = withDI t d' k' := by injection hu
  exact ⟨fun hn => (congrArg (·.flags.d) ht).trans (hd hn), fun hn => (congrArg (·.flags.i) ht).trans (hk hn)⟩

/-- Settles O29: the run from the overwritten state is the same run with D and I overwritten, and the flags kept follow
from overwriting D and I with their own values. -/
theorem decimalAndInterruptFlagsHaveNoEffect : Obligations.DecimalAndInterruptFlagsHaveNoEffect := by
  unfold Obligations.DecimalAndInterruptFlagsHaveNoEffect
  intro i s d k hi
  obtain ⟨t, h⟩ := exec_answers_next i s
  obtain ⟨d', k', hu, hd, hk⟩ := exec_withDI hi h d k
  obtain ⟨htd, hti⟩ := exec_keepsDI hi h
  exact ⟨t, withDI t d' k', h, hu, rfl, fun hn => ⟨htd hn, hd hn⟩, fun hn => ⟨hti hn, hk hn⟩⟩

end Sys2Proof.Machine
end

section
/-! The random cell holds the step's draw (spec 20_memory.md R62). What an instruction does to memory by address (R60):
one rule for each number of bytes written, none to two, says that every other byte is left, and one lemma over the
instructions matches the addresses written with those `storedAddrs` names. -/

namespace Sys2Proof.Machine

open Sys2Proof.Spec

variable {s t : State} {a b c : Addr} {v w : Byte}

theorem SameMemory.readByte_of_write (h : SameMemory t (s.writeByte b v)) (hn : a ∉ [b]) :
    t.readByte a = s.readByte a :=
  (h.readByte a).trans (s.readByte_writeByte_other (List.ne_of_not_mem_cons hn) v)

theorem SameMemory.readByte_of_two_writes (h : SameMemory t ((s.writeByte b v).writeByte c w)) (hn : a ∉ [b, c]) :
    t.readByte a = s.readByte a :=
  (h.readByte_of_write (List.not_mem_of_not_mem_cons hn)).trans
    (s.readByte_writeByte_other (List.ne_of_not_mem_cons hn) v)

theorem KeepsMemory.readByte (h : KeepsMemory s t) (a : Addr) : t.readByte a = s.readByte a :=
  SameMemory.readByte h.1 a

/-- An instruction leaves every byte it does not store to (R60). -/
theorem exec_readByte_of_not_stored {i : Instr} (h : exec i s = .next t) (hn : a ∉ storedAddrs i s) :
    t.readByte a = s.readByte a := by
  cases i
  case staZp | staZpx | staAbs | staAbsx | staAbsy | staIndx | staIndy | stxZp | stxZpy | stxAbs | styZp |
    styZpx | styAbs => exact (store_stores h).readByte_of_write hn
  case incZp | incZpx | incAbs | incAbsx | decZp | decZpx | decAbs | decAbsx =>
    exact (stepMem_stores h).choose_spec.readByte_of_write hn
  case aslZp | aslZpx | aslAbs | aslAbsx | lsrZp | lsrZpx | lsrAbs | lsrAbsx | rolZp | rolZpx | rolAbs |
    rolAbsx | rorZp | rorZpx | rorAbs | rorAbsx => exact (shiftMem_stores h).choose_spec.readByte_of_write hn
  case pha =>
    rw [execPha_next h]
    exact SameMemory.readByte_of_write (v := s.a) ⟨rfl, rfl, rfl, rfl⟩ hn
  case php =>
    rw [execPhp_next h]
    exact SameMemory.readByte_of_write (v := s.flags.pack) ⟨rfl, rfl, rfl, rfl⟩ hn
  case jsr =>
    obtain ⟨ret, -, rfl⟩ := execJsr_next h
    exact SameMemory.readByte_of_two_writes (v := hiByte ret) (w := loByte ret) ⟨rfl, rfl, rfl, rfl⟩ hn
  case ldaImm | ldaZp | ldaZpx | ldaAbs | ldaAbsx | ldaAbsy | ldaIndx | ldaIndy =>
    exact (lda_keeps h).readByte a
  case ldxImm | ldxZp | ldxZpy | ldxAbs | ldxAbsy => exact (ldx_keeps h).readByte a
  case ldyImm | ldyZp | ldyZpx | ldyAbs | ldyAbsx => exact (ldy_keeps h).readByte a
  case adcImm | adcZp | adcZpx | adcAbs | adcAbsx | adcAbsy | adcIndx | adcIndy =>
    exact (adc_keeps h).readByte a
  case sbcImm | sbcZp | sbcZpx | sbcAbs | sbcAbsx | sbcAbsy | sbcIndx | sbcIndy =>
    exact (sbc_keeps h).readByte a
  case cmpImm | cmpZp | cmpZpx | cmpAbs | cmpAbsx | cmpAbsy | cmpIndx | cmpIndy | cpxImm | cpxZp | cpxAbs |
    cpyImm | cpyZp | cpyAbs => exact (compareReg_keeps h).readByte a
  case andImm | andZp | andZpx | andAbs | andAbsx | andAbsy | andIndx | andIndy | oraImm | oraZp | oraZpx |
    oraAbs | oraAbsx | oraAbsy | oraIndx | oraIndy | eorImm | eorZp | eorZpx | eorAbs | eorAbsx | eorAbsy |
    eorIndx | eorIndy => exact (logicResult_keeps h).readByte a
  case bitZp | bitAbs => exact (bitTest_keeps h).readByte a
  case aslAcc | lsrAcc | rolAcc | rorAcc => exact (shiftAcc_keeps h).readByte a
  case bpl | bmi | bvc | bvs | bcc | bcs | bne | beq => exact (branch_keeps h).readByte a
  case plp => rw [execPlp_next h]; rfl
  -- What is left has a meaning of its own, which writes registers, flags and the run state alone.
  all_goals cases h; rfl

/-- An instruction leaves the parameters (R8). -/
theorem exec_cfg {i : Instr} (h : exec i s = .next t) : t.cfg = s.cfg := by
  obtain ⟨u, hw, ⟨-, -, -, hc⟩, -⟩ := exec_memory h
  exact hc.trans hw.cfg

/-- Settles O20: the draw is left by an instruction that does not store to the cell, and the parameters by every
instruction, so the next step's draw goes to the same address. -/
theorem randomCellHoldsTheStepsDraw : Obligations.RandomCellHoldsTheStepsDraw := by
  unfold Obligations.RandomCellHoldsTheStepsDraw
  intro r k s
  have hr : (beginCycle r k s).readByte s.cfg.randAddr = r := readByte_beginCycle_rand s r k
  refine ⟨hr, fun a => readByte_beginCycle_other s r k,
    fun i t h hn => (exec_readByte_of_not_stored h hn).trans hr, ?_⟩
  intro i t r' k' h
  have hc : s.cfg = t.cfg := (beginCycle_cfg s r k).symm.trans (exec_cfg h).symm
  rw [hc]
  exact readByte_beginCycle_rand t r' k'

end Sys2Proof.Machine
end

section
/-! Encoding (spec 30_encoding.md R129, R130): the encoder's bytes decode to their instruction whatever follows them,
and an absolute reference, wherever it stands, is patched with the address of its label. -/

namespace Sys2Proof

/-- The decoder's answer when the row is selected and its operand bytes are there (R98). -/
theorem decode_cons_of_decodeInstr {op : Byte} {bytes : List Byte} {i : Instr}
    (h : decodeInstr op (bytes.getD 0 0) (bytes.getD 1 0) = some i) (hl : i.length ≤ bytes.length + 1) :
    decode (op :: bytes) = .ok (i, bytes.drop (i.length - 1)) := by
  simp only [decode, h]
  exact if_neg (by omega)

/-- A byte of a list with more bytes after it: where the list ends, the bytes after it take the default's place. -/
theorem getD_append_eq_getD_getD (xs ys : List Byte) (k : Nat) (d : Byte) :
    (xs ++ ys).getD k d = xs.getD k (ys.getD (k - xs.length) d) := by
  simp only [List.getD_eq_getElem?_getD]
  rcases Nat.lt_or_ge k xs.length with h | h
  · rw [List.getElem?_append_left h, List.getElem?_eq_getElem h, Option.getD_some, Option.getD_some]
  · rw [List.getElem?_append_right h, List.getElem?_eq_none h, Option.getD_none]

/-- The encoding of any instruction decodes to it and leaves the bytes after it (R129). -/
theorem decode_encode_append (i : Instr) (rest : List Byte) : decode (encode i ++ rest) = .ok (i, rest) := by
  have hlen := i.operand_bytes_length
  have hrow : decodeInstr i.opcode ((i.operand.bytes ++ rest).getD 0 0) ((i.operand.bytes ++ rest).getD 1 0) =
      some i := by
    rw [getD_append_eq_getD_getD, getD_append_eq_getD_getD]
    exact decodeInstr_opcode i _ _
  have hdec := decode_cons_of_decodeInstr hrow (by rw [List.length_append]; omega)
  rwa [List.drop_left' hlen] at hdec

/-- The opcode alone gives the row's mnemonic, mode and length (R82, R129). -/
theorem decodeOpcode_opcode (i : Instr) : decodeOpcode i.opcode = some (i.mnemonic, i.mode, i.length) := by
  obtain ⟨j, hj, hn, hm⟩ := decodeInstr_sameRow i 0 0
  rw [decodeOpcode, hj, Option.map_some, Instr.length, Instr.length, hn, hm]

/-- Settles O4: the selected row is the instruction whatever bytes stand after its operand, and the opcode alone
selects a row of the same pair. -/
theorem decodeInvertsEncode : Obligations.DecodeInvertsEncode := by
  unfold Obligations.DecodeInvertsEncode
  exact fun i rest _ => ⟨decode_encode_append i rest, decodeOpcode_opcode i⟩

/-- R126's address is the 16-bit sum of `LOAD_ADDR` and the label's offset, as long as it fits. -/
theorem resolveAbsolute_of_fits {c : Config} {t : Nat} (h : c.loadAddr.toNat + t < 0x10000) :
    resolveAbsolute c t =
      some [loByte (c.loadAddr + BitVec.ofNat 16 t), hiByte (c.loadAddr + BitVec.ofNat 16 t)] := by
  have haddr : BitVec.ofNat 16 (c.loadAddr.toNat + t) = c.loadAddr + BitVec.ofNat 16 t := by
    rw [BitVec.ofNat_add, BitVec.ofNat_toNat, BitVec.setWidth_eq]
  simp only [resolveAbsolute, if_pos h, haddr]

end Sys2Proof

namespace Sys2Proof.Machine

section Patch

variable {buffer bytes : List Byte} {p k : Nat} (d : Byte)

/-- Patching inside the buffer keeps its length. -/
theorem length_patchBytes (h : p + bytes.length ≤ buffer.length) :
    (patchBytes buffer p bytes).length = buffer.length := by
  simp only [patchBytes, List.length_append, List.length_take, List.length_drop]
  omega

/-- The patched bytes stand at the position. -/
theorem getD_patchBytes_inside (h : p ≤ buffer.length) (hk : k < bytes.length) :
    (patchBytes buffer p bytes).getD (p + k) d = bytes.getD k d := by
  have hp : (buffer.take p).length = p := List.length_take_of_le h
  rw [patchBytes, List.append_assoc, List.getD_eq_getElem?_getD, List.getElem?_append_right (by omega), hp,
    Nat.add_sub_cancel_left, List.getElem?_append_left hk, List.getD_eq_getElem?_getD]

/-- Every other byte is as before. -/
theorem getD_patchBytes_outside (h : p + bytes.length ≤ buffer.length) (hk : k < p ∨ p + bytes.length ≤ k) :
    (patchBytes buffer p bytes).getD k d = buffer.getD k d := by
  have hp : (buffer.take p).length = p := List.length_take_of_le (by omega)
  rw [patchBytes, List.append_assoc, List.getD_eq_getElem?_getD, List.getD_eq_getElem?_getD]
  rcases hk with hk | hk
  · rw [List.getElem?_append_left (by omega), List.getElem?_take_of_lt hk]
  · rw [List.getElem?_append_right (by omega), List.getElem?_append_right (by omega), List.getElem?_drop, hp]
    have hidx : p + bytes.length + (k - p - bytes.length) = k := by omega
    rw [hidx]

end Patch

/-- An absolute reference to a label that fits is patched with the two bytes of the label's address (R126). -/
theorem resolveReference_absolute {c : Config} {labels : List (Text × Nat)} {r : PendingRef} {t : Nat}
    (buffer : List Byte) (hr : r.relative = false) (hf : findName r.label labels = some t)
    (ht : c.loadAddr.toNat + t < 0x10000) :
    resolveReference c labels buffer r =
      .ok (patchBytes buffer r.position (wordBytes (c.loadAddr + BitVec.ofNat 16 t))) := by
  simp only [resolveReference, hf, hr, resolveAbsolute_of_fits ht, wordBytes, Bool.false_eq_true, if_false]

/-- Settles O12: the patch is the label's address, low byte first, and does not depend on where the reference stands. -/
theorem absoluteReferencesResolveToTheLabel : Obligations.AbsoluteReferencesResolveToTheLabel := by
  unfold Obligations.AbsoluteReferencesResolveToTheLabel
  intro c labels buffer r t hr hf ht hp
  have hlo := getD_patchBytes_inside (bytes := wordBytes (c.loadAddr + BitVec.ofNat 16 t)) (k := 0) 0
    (Nat.le_of_add_right_le hp) Nat.zero_lt_two
  have hhi := getD_patchBytes_inside (bytes := wordBytes (c.loadAddr + BitVec.ofNat 16 t)) (k := 1) 0
    (Nat.le_of_add_right_le hp) Nat.one_lt_two
  refine ⟨_, resolveReference_absolute buffer hr hf ht, length_patchBytes hp, ?_, ?_⟩
  · rw [Nat.add_zero] at hlo
    rw [hhi, hlo]
    exact hiLo_hiByte_loByte _
  · intro k h0 h1
    have hout : k < r.position ∨ r.position + 2 ≤ k := by omega
    exact getD_patchBytes_outside 0 hp hout

end Sys2Proof.Machine
end

section
/-! Loads and stores (spec 40_load_store.md R140 to R145). Each row of a table of forms runs one shared operation on the
row's operand and has the length of that operand's mode; what the shared operation answers is then said for all rows at
once. -/

namespace Sys2Proof.Machine

open Sys2Proof.Spec

/-- Every row of a table of forms runs `op` on its operand, and its length is that of the operand's mode. -/
def FormsRun {α : Type} (mode : α → Mode) (op : α → State → Result) (forms : List (Instr × α × Addr)) : Prop :=
  ∀ f ∈ forms, (∀ s, exec f.1 s = op f.2.1 s) ∧ f.2.2 = BitVec.ofNat 16 (mode f.2.1).length

theorem FormsRun.nil {α : Type} {mode : α → Mode} {op : α → State → Result} : FormsRun mode op [] :=
  fun _ hf => absurd hf List.not_mem_nil

theorem FormsRun.cons {α : Type} {mode : α → Mode} {op : α → State → Result} {i : Instr} {d : α} {len : Addr}
    {forms : List (Instr × α × Addr)} (hexec : ∀ s, exec i s = op d s)
    (hlen : len = BitVec.ofNat 16 (mode d).length) (h : FormsRun mode op forms) :
    FormsRun mode op ((i, d, len) :: forms) :=
  List.forall_mem_cons.2 ⟨⟨hexec, hlen⟩, h⟩

/-- A row answers what the shared operation answers on its operand; its length may be written for the mode's. -/
theorem FormsRun.exec_eq {α : Type} {mode : α → Mode} {op : α → State → Result} {forms : List (Instr × α × Addr)}
    (h : FormsRun mode op forms) {f : Instr × α × Addr} (hf : f ∈ forms) {s u : State}
    (hop : ∀ t, f.2.2 = BitVec.ofNat 16 (mode f.2.1).length → op f.2.1 s = .next t → t = u) :
    exec f.1 s = .next u := by
  obtain ⟨hexec, hlen⟩ := h f hf
  obtain ⟨t, ht⟩ := exec_answers_next f.1 s
  rw [ht, hop t hlen ((hexec s).symm.trans ht)]

/-- The model's operand is `Operand(mode)` of the spec (R84, R85). -/
theorem operandValue_eq_operandByte (d : DataOperand) (s : State) : operandValue d s = operandByte d s := by
  cases d <;> rfl

/-- The model's `SetNZ` is the spec's (R31). -/
theorem Flags.setNZ_eq_nzFlags (f : Flags) (v : Byte) : f.setNZ v = nzFlags f v := rfl

section Forms

variable (b1 : Byte) (w : Addr)

theorem ldaForms_run : FormsRun DataOperand.mode lda (ldaForms b1 w) := by
  unfold ldaForms
  repeat refine .cons (fun _ => rfl) rfl ?_
  exact .nil

theorem ldxForms_run : FormsRun DataOperand.mode ldx (ldxForms b1 w) := by
  unfold ldxForms
  repeat refine .cons (fun _ => rfl) rfl ?_
  exact .nil

theorem ldyForms_run : FormsRun DataOperand.mode ldy (ldyForms b1 w) := by
  unfold ldyForms
  repeat refine .cons (fun _ => rfl) rfl ?_
  exact .nil

theorem staForms_run : FormsRun MemOperand.mode (fun m s => store m s.a s) (staForms b1 w) := by
  unfold staForms
  repeat refine .cons (fun _ => rfl) rfl ?_
  exact .nil

theorem stxForms_run : FormsRun MemOperand.mode (fun m s => store m s.x s) (stxForms b1 w) := by
  unfold stxForms
  repeat refine .cons (fun _ => rfl) rfl ?_
  exact .nil

theorem styForms_run : FormsRun MemOperand.mode (fun m s => store m s.y s) (styForms b1 w) := by
  unfold styForms
  repeat refine .cons (fun _ => rfl) rfl ?_
  exact .nil

end Forms

/-- Settles O32: the rows run `lda`, `ldx` and `ldy`, whose operand and flags are the spec's. -/
theorem loadsWriteTheOperandAndSetNZ : Obligations.LoadsWriteTheOperandAndSetNZ := by
  unfold Obligations.LoadsWriteTheOperandAndSetNZ
  refine fun s b1 w => ⟨fun f hf => (ldaForms_run b1 w).exec_eq hf fun t hlen ht => ?lda,
    fun f hf => (ldxForms_run b1 w).exec_eq hf fun t hlen ht => ?ldx,
    fun f hf => (ldyForms_run b1 w).exec_eq hf fun t hlen ht => ?ldy⟩
  case lda => rw [lda_next ht, hlen, operandValue_eq_operandByte, Flags.setNZ_eq_nzFlags]
  case ldx => rw [ldx_next ht, hlen, operandValue_eq_operandByte, Flags.setNZ_eq_nzFlags]
  case ldy => rw [ldy_next ht, hlen, operandValue_eq_operandByte, Flags.setNZ_eq_nzFlags]

/-- Settles O33: the rows run `store` of the register on their operand, which writes one byte and PC alone. -/
theorem storesWriteTheRegister : Obligations.StoresWriteTheRegister := by
  unfold Obligations.StoresWriteTheRegister
  refine fun s b1 w => ⟨fun f hf => (staForms_run b1 w).exec_eq hf fun t hlen ht => ?sta,
    fun f hf => (stxForms_run b1 w).exec_eq hf fun t hlen ht => ?stx,
    fun f hf => (styForms_run b1 w).exec_eq hf fun t hlen ht => ?sty⟩
  case sta => rw [store_next ht, hlen]
  case stx => rw [store_next ht, hlen]
  case sty => rw [store_next ht, hlen]

end Sys2Proof.Machine
end

section
/-! Addition and subtraction (spec 41_add_sub.md R162, R163). The rows run `adc` and `sbc`, which add the operand or
its complement; R163 writes the complement as an exclusive or with 0xFF. -/

namespace Sys2Proof.Machine

open Sys2Proof.Spec

theorem xor_0xFF_eq_complement (m : Byte) : m ^^^ 0xFF = ~~~m := BitVec.xor_allOnes

section Forms

variable (b1 : Byte) (w : Addr)

theorem adcForms_run : FormsRun DataOperand.mode adc (adcForms b1 w) := by
  unfold adcForms
  repeat refine .cons (fun _ => rfl) rfl ?_
  exact .nil

theorem sbcForms_run : FormsRun DataOperand.mode sbc (sbcForms b1 w) := by
  unfold sbcForms
  repeat refine .cons (fun _ => rfl) rfl ?_
  exact .nil

end Forms

/-- Settles O34: the rows run `adc`, which adds the spec's operand. -/
theorem adcAddsThroughTheAdder : Obligations.AdcAddsThroughTheAdder := by
  unfold Obligations.AdcAddsThroughTheAdder
  refine fun s b1 w f hf => (adcForms_run b1 w).exec_eq hf fun t hlen ht => ?_
  obtain ⟨r, rfl, rfl⟩ := adc_next ht
  rw [hlen, operandValue_eq_operandByte, Flags.setNZ_eq_nzFlags]

/-- Settles O35: the rows run `sbc`, which adds the complement of the spec's operand. -/
theorem sbcAddsTheComplement : Obligations.SbcAddsTheComplement := by
  unfold Obligations.SbcAddsTheComplement
  refine fun s b1 w f hf => (sbcForms_run b1 w).exec_eq hf fun t hlen ht => ?_
  obtain ⟨r, rfl, rfl⟩ := sbc_next ht
  rw [hlen, operandValue_eq_operandByte, xor_0xFF_eq_complement, Flags.setNZ_eq_nzFlags]

end Sys2Proof.Machine
end

section
/-! Register transfers (spec 45_transfer.md R210 to R215). Every transfer but TXS moves the value and then ends in
`transferred`, whose answer is said once. -/

namespace Sys2Proof.Machine

open Sys2Proof.Spec

/-- The end of a transfer writes N, Z and PC alone (R31). -/
theorem transferred_eq (v : Byte) (s : State) :
    transferred v s = .next { s with flags := nzFlags s.flags v, pc := s.pc + 1 } := by
  unfold transferred
  rw [State.setNZ_eq, Flags.setNZ_eq_nzFlags]
  rfl

/-- TXS writes SP and PC alone (R215). -/
theorem execTxs_eq (s : State) : execTxs s = .next { s with sp := s.x, pc := s.pc + 1 } := rfl

/-- Settles O46: five transfers end in `transferred` from the state with the destination written, and TXS has no flag
to set. -/
theorem transfersCopyRegisters : Obligations.TransfersCopyRegisters := by
  unfold Obligations.TransfersCopyRegisters
  refine fun s => ⟨?tax, ?tay, ?txa, ?tya, ?tsx, ?txs⟩
  case tax => exact transferred_eq s.a (s.setX s.a)
  case tay => exact transferred_eq s.a (s.setY s.a)
  case txa => exact transferred_eq s.x (s.setA s.x)
  case tya => exact transferred_eq s.y (s.setA s.y)
  case tsx => exact transferred_eq s.sp (s.setX s.sp)
  case txs => exact execTxs_eq s

end Sys2Proof.Machine
end

section
/-! BRK and the views of a halted run (spec 48_jump_call_halt.md R247; R39, R40). -/

namespace Sys2Proof.Machine

/-- A halted run raises the shared "stopped" flag (R39). -/
theorem State.stopped_halted {s : State} (h : s.rs = .halted) : s.stopped = true := by
  simp [State.stopped, h]

/-- A halted run's snapshot is its registers and flags (R40). -/
theorem State.snapshot_halted {s : State} (h : s.rs = .halted) :
    s.snapshot = some ⟨s.a, s.x, s.y, s.sp, s.pc, s.flags⟩ := by
  simp [State.snapshot, State.stopped_halted h]

/-- A halted run's dump is its memory (R40). -/
theorem State.dumpByte_halted {s : State} (h : s.rs = .halted) (a : Addr) :
    s.dumpByte a = some (s.readByte a) := by
  simp [State.dumpByte, State.stopped_halted h]

/-- BRK writes B, PC and RS alone (R247). -/
theorem execBrk_eq (s : State) :
    execBrk s = .next { s with flags := { s.flags with b := true }, pc := s.pc + 1, rs := .halted } := rfl

/-- Settles O56: BRK's next state is halted, so the three views are those of any halted run; its memory and cells are
those before BRK. -/
theorem brkHaltsWithItsSnapshot : Obligations.BrkHaltsWithItsSnapshot := by
  unfold Obligations.BrkHaltsWithItsSnapshot
  exact fun s => ⟨_, execBrk_eq s, rfl, State.stopped_halted rfl, State.snapshot_halted rfl,
    State.dumpByte_halted rfl⟩

end Sys2Proof.Machine
end

section
/-! The unknown instruction is the only exception (spec 60_exceptions.md R262). Fetch and execute ends in one of three
ways: in the RTI form, in an instruction, or in the fault of an unknown opcode. Neither of the first two enters
`Faulted`. -/

namespace Sys2Proof.Machine

open Sys2Proof.Spec

variable {s t : State} {op : Byte}

/-- No instruction enters `Faulted`: BRK and a halting PLP enter `Halted`, and every other instruction leaves RS
(R39). -/
theorem faulted_of_exec_faulted {i : Instr} (h : exec i s = .next t) (ht : t.rs = .faulted op) :
    s.rs = .faulted op := by
  obtain ⟨hbrk, hplp, hrest⟩ := exec_rs h
  by_cases hib : i.mnemonic = .brk
  · exact absurd ((hbrk hib).symm.trans ht) nofun
  by_cases hip : i.mnemonic = .plp
  · rw [hplp hip] at ht
    split at ht
    · cases ht
    · exact ht
  · exact (hrest hib hip).symm.trans ht

/-- The RTI form leaves RS (R268). -/
theorem execRti_answers_next (s : State) : ∃ t, execRti s = .next t ∧ t.rs = s.rs := ⟨_, rfl, rfl⟩

/-- Where the bytes at PC select no row, the opcode there is unknown (R82). -/
theorem decodeOpcode_eq_none_of_fetched (h : fetched s = none) : decodeOpcode (s.readByte s.pc) = none := by
  rw [decodeOpcode, decodeInstr_eq_none 0 0 h, Option.map_none]

/-- The three ways fetch and execute goes (R260). -/
theorem runFetched_eq_cases (s : State) :
    runFetched s = execRti s ∨ (∃ i, fetched s = some i ∧ runFetched s = exec i s) ∨
    (fetched s = none ∧ runFetched s = raiseUnknown (s.readByte s.pc) s) := by
  unfold runFetched
  split
  · exact .inl rfl
  · cases hf : fetched s with
    | some i => exact .inr (.inl ⟨i, rfl, by rw [decode_fetchBytes hf]⟩)
    | none => exact .inr (.inr ⟨rfl, by rw [decode_fetchBytes_none hf]⟩)

/-- Fetch and execute answers a next state, which enters `Faulted` only for an unknown opcode at PC (R261, R262). -/
theorem runFetched_answers_next (s : State) :
    ∃ t, runFetched s = .next t ∧
      ∀ op, t.rs = .faulted op → s.rs = .faulted op ∨ (op = s.readByte s.pc ∧ decodeOpcode op = none) := by
  rcases runFetched_eq_cases s with h | ⟨i, -, h⟩ | ⟨hf, h⟩
  · obtain ⟨t, ht, hrs⟩ := execRti_answers_next s
    exact ⟨t, h.trans ht, fun op hop => .inl (hrs.symm.trans hop)⟩
  · obtain ⟨t, ht⟩ := exec_answers_next i s
    exact ⟨t, h.trans ht, fun op hop => .inl (faulted_of_exec_faulted ht hop)⟩
  · refine ⟨_, h, fun op hop => .inr ?_⟩
    obtain rfl : s.readByte s.pc = op := RunState.faulted.inj hop
    exact ⟨rfl, decodeOpcode_eq_none_of_fetched hf⟩

/-- From `Running` a step fetches and executes from the begun state (R260). -/
theorem step_eq_runFetched_begun (h : s.rs = .running) : step s = runFetched (begun s) := by
  simp only [step, cycle, h]
  rfl

/-- Settles O16: no instruction enters `Faulted`, and a begun state that runs is not faulted already, so its step
faults only by the unknown opcode at PC. -/
theorem onlyUnknownOpcodesFault : Obligations.OnlyUnknownOpcodesFault := by
  unfold Obligations.OnlyUnknownOpcodesFault
  refine ⟨fun i s => ?_, fun s hrun => ?_⟩
  · obtain ⟨t, ht⟩ := exec_answers_next i s
    exact ⟨t, ht, fun op => faulted_of_exec_faulted ht⟩
  · obtain ⟨t, ht, hfault⟩ := runFetched_answers_next (begun s)
    refine ⟨t, (step_eq_runFetched_begun hrun).trans ht, fun op hop => (hfault op hop).resolve_left ?_⟩
    exact fun hf => absurd (hrun.symm.trans hf) nofun

end Sys2Proof.Machine
end

section
/-! Decoding, from the bytes back (spec 30_encoding.md R82, R97, R100): bytes that decode are an encoding, and the opcode
map, the opcode table and the assembler's table of pairs agree. -/

namespace Sys2Proof

open Sys2Proof.Machine Sys2Proof.Spec

/-- A list's first bytes, read one by one with a default. -/
theorem take_getD_pair {bytes : List Byte} {n : Nat} (hn : n ≤ bytes.length) (h2 : n ≤ 2) (d : Byte) :
    [bytes.getD 0 d, bytes.getD 1 d].take n = bytes.take n := by
  match bytes, n with
  | _, 0 => simp
  | b :: _, 1 => simp
  | b :: c :: _, 2 => simp

/-- What an answer of the decoder comes from (R98): the row the first bytes select, all its operand bytes being there. -/
theorem decode_eq_ok {bytes rest : List Byte} {i : Instr} (h : decode bytes = .ok (i, rest)) :
    ∃ op tail, bytes = op :: tail ∧ decodeInstr op (tail.getD 0 0) (tail.getD 1 0) = some i ∧
      i.length ≤ tail.length + 1 ∧ rest = tail.drop (i.length - 1) := by
  match bytes with
  | [] => cases h
  | op :: tail =>
    simp only [decode] at h
    split at h
    · cases h
    · split at h
      · cases h
      · cases h
        exact ⟨op, tail, rfl, ‹_›, by omega, rfl⟩

/-- Every instruction is a row of an admitted pair (R100). -/
theorem Instr.wf_eq_true (i : Instr) : i.wf = true := (opcodeOfPair_of_decode (decodeOpcode_opcode i)).2.2

/-- The encoding has the instruction's length (R80, R81). -/
theorem length_encode (i : Instr) : (encode i).length = i.length := by
  have := i.length_cases
  rw [encode, List.length_cons, i.operand_bytes_length]
  omega

/-- Settles O5: the selected row has the opcode the bytes start with, and its operand bytes are the ones that follow. -/
theorem decodedBytesAreItsEncoding : Obligations.DecodedBytesAreItsEncoding := by
  unfold Obligations.DecodedBytesAreItsEncoding
  intro bytes i rest h
  refine ⟨?_, i.wf_eq_true, length_encode i⟩
  obtain ⟨op, tail, rfl, hrow, hlen, rfl⟩ := decode_eq_ok h
  obtain ⟨hop, hbytes⟩ := decodeInstr_eq_some hrow
  have := i.length_cases
  rw [take_getD_pair (by omega) (by omega)] at hbytes
  rw [encode, hop, hbytes, List.cons_append, List.take_append_drop]

/-- Settles O6: the opcode of a pair is the cell of R100's table for it. -/
theorem opcodesAndAdmittedPairsCorrespond : Obligations.OpcodesAndAdmittedPairsCorrespond := by
  unfold Obligations.OpcodesAndAdmittedPairsCorrespond
  refine ⟨fun m md => ⟨fun h => ?_, fun ⟨op, h⟩ => (opcodeOfPair_of_decode h).2.2⟩,
    fun op m md len h => (opcodeOfPair_of_decode h).2.1, fun op op' m md len h h' => ?_⟩
  · obtain ⟨op, -, hop⟩ := decodeOpcode_of_admitted h
    exact ⟨op, hop⟩
  · exact Option.some.inj ((opcodeOfPair_of_decode h).1.symm.trans (opcodeOfPair_of_decode h').1)

/-- A pair has a cell exactly if it is admitted (R100). -/
theorem isSome_opcodeOfPair (m : Mnemonic) (md : Mode) : (opcodeOfPair m md).isSome = formAdmitted m md := by
  cases m <;> cases md <;> rfl

/-- The decoder reads a pair's cell as the pair. -/
theorem decodeOpcode_of_opcodeOfPair {op : Byte} {m : Mnemonic} {md : Mode} (h : opcodeOfPair m md = some op) :
    decodeOpcode op = some (m, md, md.length) := by
  have hadm : formAdmitted m md = true := by rw [← isSome_opcodeOfPair, h, Option.isSome_some]
  obtain ⟨op', hcell, hop⟩ := decodeOpcode_of_admitted hadm
  obtain rfl : op = op' := Option.some.inj (h.symm.trans hcell)
  exact hop

/-- Settles O11: the emitted opcode is the cell of the pair. -/
theorem assemblerEmitsTheEncoding : Obligations.AssemblerEmitsTheEncoding := by
  unfold Obligations.AssemblerEmitsTheEncoding
  refine ⟨fun i => by rw [formBytes, opcodeOfPair_eq, Option.map_some, encode], fun m md operand bytes h => ?_⟩
  obtain ⟨op, hop, rfl⟩ := Option.map_eq_some_iff.1 h
  exact ⟨op, rfl, decodeOpcode_of_opcodeOfPair hop⟩

/-- Every row of the opcode table is what the decoder answers for its byte. -/
theorem decodeOpcode_of_mem_opcodeTable : ∀ row ∈ opcodeTable, decodeOpcode row.1 = some row.2 := by
  unfold opcodeTable
  simp only [List.forall_mem_append]
  exact ⟨⟨⟨⟨⟨by decide, by decide⟩, by decide⟩, by decide⟩, by decide⟩, by decide⟩

/-- Every instruction's opcode has a row in the opcode table. -/
theorem opcode_mem_opcodeTable (i : Instr) : i.opcode ∈ opcodeTable.map (·.1) := by
  cases i <;> simp only [Instr.opcode] <;> decide

/-- Settles O7: a row that is found is the decoder's, and every opcode the decoder selects has a row. -/
theorem decodeFollowsTheOpcodeTable : Obligations.DecodeFollowsTheOpcodeTable := by
  unfold Obligations.DecodeFollowsTheOpcodeTable
  refine ⟨rfl, fun op => ?_⟩
  cases hfind : opcodeTable.find? fun row => row.1 == op with
  | some row =>
    have hop : (row.1 == op) = true := List.find?_some (p := fun row : Byte × Mnemonic × Mode × Nat => row.1 == op) hfind
    obtain rfl : row.1 = op := eq_of_beq hop
    exact decodeOpcode_of_mem_opcodeTable row (List.mem_of_find?_eq_some hfind)
  | none =>
    rw [Option.map_none, decodeOpcode, Option.map_eq_none_iff, Option.eq_none_iff_forall_ne_some]
    rintro i hi
    obtain ⟨rfl, -⟩ := decodeInstr_eq_some hi
    obtain ⟨row, hrow, hop⟩ := List.mem_map.1 (opcode_mem_opcodeTable i)
    exact List.find?_eq_none.1 hfind row hrow (beq_iff_eq.2 hop)

/-- The bytes of R96 have no row. -/
theorem decodeOpcode_of_mem_unknownOpcodes {op : Byte} (h : op ∈ unknownOpcodes) : decodeOpcode op = none := by
  have hall : (unknownOpcodes.all fun op => (decodeOpcode op).isNone) = true := by decide
  exact Option.isNone_iff_eq_none.1 (List.all_eq_true.1 hall op h)

/-- Every byte has a row or is in R96's list. -/
theorem isSome_decodeOpcode_or_mem_unknownOpcodes :
    ∀ op : Byte, (decodeOpcode op).isSome = true ∨ op ∈ unknownOpcodes := by decide

/-- Settles O8: the listed bytes have no row, and every other byte has one. -/
theorem unknownOpcodesAreTheListedBytes : Obligations.UnknownOpcodesAreTheListedBytes := by
  unfold Obligations.UnknownOpcodesAreTheListedBytes
  refine ⟨rfl, fun op => ⟨fun h => ?_, decodeOpcode_of_mem_unknownOpcodes⟩⟩
  refine (isSome_decodeOpcode_or_mem_unknownOpcodes op).resolve_left fun hsome => ?_
  rw [h] at hsome
  cases hsome

/-- Settles O9: each word's opcode selects its row whatever the operand bytes are. -/
theorem sampleWordsDecode : Obligations.SampleWordsDecode := by
  unfold Obligations.SampleWordsDecode sampleWords
  intro b1 b2
  repeat refine List.forall_mem_cons.2 ⟨rfl, ?_⟩
  exact fun _ hf => absurd hf List.not_mem_nil

end Sys2Proof
end

section
/-! The engine (spec 60_exceptions.md R260 to R265). A step from `Running` either runs the RTI form, or the instruction
the bytes at PC select, or faults; which of the three is settled by the switch and the bytes. -/

namespace Sys2Proof.Machine

open Sys2Proof.Spec

variable {s t : State} {i : Instr} {op : Byte}

theorem MemoryEffect.wf (h : MemoryEffect s t) (hs : s.wf) : t.wf := by
  obtain ⟨u, hw, hm, -⟩ := h
  exact hm.wf (hw.wf hs)

theorem MemoryEffect.cfg (h : MemoryEffect s t) : t.cfg = s.cfg := by
  obtain ⟨u, hw, ⟨-, -, -, hc⟩, -⟩ := h
  exact hc.trans hw.cfg

theorem MemoryEffect.ticks (h : MemoryEffect s t) : t.ticks = s.ticks := by
  obtain ⟨u, -, -, ht⟩ := h
  exact ht

/-- Settles O18: the start of a step keeps the state well formed, and so does every byte write that follows. -/
theorem stepKeepsStateWellFormed : Obligations.StepKeepsStateWellFormed := by
  unfold Obligations.StepKeepsStateWellFormed
  intro s t hs h
  exact (runFetched_memory (step_cases h).2).wf (beginCycle_wf hs _ _)

/-- Settles O19: the start of a step counts it, and what is fetched and run leaves the counter and the parameters. -/
theorem stepKeepsParameters : Obligations.StepKeepsParameters := by
  unfold Obligations.StepKeepsParameters
  intro s t h
  have hm := runFetched_memory (step_cases h).2
  exact ⟨hm.cfg, hm.ticks⟩

/-! ### Which of the three ways a step goes -/

/-- The fetch is not diverted to the RTI form (R268; log 4). -/
theorem rti_test_eq_false (hn : s.cfg.rtiImplemented = false ∨ s.readByte s.pc ≠ 0x40) :
    (s.cfg.rtiImplemented && s.readByte s.pc == 0x40#8) = false := by
  rw [Bool.and_eq_false_iff]
  exact hn.imp_right fun h => beq_false_of_ne h

/-- A step that is not diverted runs the instruction the bytes at PC select (R260). -/
theorem step_eq_exec (hrun : s.rs = .running) (hn : NoRti s) (hf : fetched (begun s) = some i) :
    step s = exec i (begun s) := by
  have hrti : ((begun s).cfg.rtiImplemented && (begun s).readByte (begun s).pc == 0x40#8) = false :=
    rti_test_eq_false hn
  rw [step_eq_runFetched_begun hrun, runFetched, hrti, decode_fetchBytes hf]
  rfl

/-- A step that is not diverted faults if they select none (R261). -/
theorem step_eq_faulted (hrun : s.rs = .running) (hn : NoRti s) (hf : fetched (begun s) = none) :
    step s = .next { begun s with rs := .faulted ((begun s).readByte s.pc) } := by
  have hrti : ((begun s).cfg.rtiImplemented && (begun s).readByte (begun s).pc == 0x40#8) = false :=
    rti_test_eq_false hn
  rw [step_eq_runFetched_begun hrun, runFetched, hrti, decode_fetchBytes_none hf]
  rfl

/-- With the switch on, a step at 0x40 runs the RTI form (R268; log 4). -/
theorem step_eq_execRti (hrun : s.rs = .running) (hsw : s.cfg.rtiImplemented = true)
    (hop : (begun s).readByte s.pc = 0x40) : step s = execRti (begun s) := by
  have hrti : ((begun s).cfg.rtiImplemented && (begun s).readByte (begun s).pc == 0x40#8) = true :=
    Bool.and_eq_true_iff.2 ⟨hsw, beq_iff_eq.2 hop⟩
  rw [step_eq_runFetched_begun hrun, runFetched, hrti, if_pos rfl]

/-- Settles O13: a step answers a next state only from `Running`, where it goes one of the two ways by what is fetched. -/
theorem stepRunsTheFetchedInstruction : Obligations.StepRunsTheFetchedInstruction := by
  unfold Obligations.StepRunsTheFetchedInstruction
  exact ⟨fun s t h => (step_cases h).1, fun s hrun hn =>
    ⟨fun i hf => ⟨decode_fetchBytes hf, step_eq_exec hrun hn hf⟩, step_eq_faulted hrun hn⟩⟩

/-- From `Running` an instruction halts exactly if it is BRK, or a PLP the switch lets halt (R224, R247). -/
theorem exec_halted_iff (hrun : s.rs = .running) (h : exec i s = .next t) :
    t.rs = .halted ↔ i.mnemonic = .brk ∨ i.mnemonic = .plp ∧ s.cfg.plpBHalts = true ∧ t.flags.b = true := by
  obtain ⟨hbrk, hplp, hrest⟩ := exec_rs h
  by_cases hib : i.mnemonic = .brk
  · exact ⟨fun _ => .inl hib, fun _ => hbrk hib⟩
  by_cases hip : i.mnemonic = .plp
  · rw [hplp hip, hrun]
    by_cases hb : s.cfg.plpBHalts = true ∧ t.flags.b = true
    · exact ⟨fun _ => .inr ⟨hip, hb⟩, fun _ => if_pos hb⟩
    · rw [if_neg hb]
      exact ⟨nofun, fun h => h.elim (absurd · hib) fun h => absurd h.2 hb⟩
  · rw [hrest hib hip, hrun]
    exact ⟨nofun, fun h => h.elim (absurd · hib) (absurd ·.1 hip)⟩

/-- Settles O17: an instruction does not fault and halts as `exec_halted_iff` says; the fault of an unknown opcode is
the only one. -/
theorem runEndsOnlyByBrkOrUnknownOpcode : Obligations.RunEndsOnlyByBrkOrUnknownOpcode := by
  unfold Obligations.RunEndsOnlyByBrkOrUnknownOpcode
  intro s hrun hn
  cases hf : fetched (begun s) with
  | none =>
    refine ⟨_, step_eq_faulted hrun hn hf, fun op => ?_, nofun, fun ⟨i, hi, _⟩ => nomatch hi⟩
    exact ⟨fun h => ⟨rfl, (RunState.faulted.inj h).symm⟩, fun h => h.2 ▸ rfl⟩
  | some i =>
    have hrun' : (begun s).rs = .running := hrun
    obtain ⟨t, ht⟩ := exec_answers_next i (begun s)
    refine ⟨t, (step_eq_exec hrun hn hf).trans ht, fun op => ⟨fun h => ?_, fun ⟨h, _⟩ => nomatch h⟩, ?_⟩
    · exact absurd (hrun'.symm.trans (faulted_of_exec_faulted ht h)) nofun
    · rw [exec_halted_iff hrun' ht]
      exact ⟨fun h => ⟨i, rfl, h⟩, fun ⟨j, hj, h⟩ => Option.some.inj hj ▸ h⟩

/-- An unknown opcode selects no row, whatever bytes follow it. -/
theorem fetched_eq_none (h : decodeOpcode (s.readByte s.pc) = none) : fetched s = none :=
  decodeInstr_eq_none _ _ (Option.map_eq_none_iff.1 h)

/-- Of an unknown opcode no operand byte is fetched (R261). -/
theorem fetchBytes_unknown (h : decodeOpcode (s.readByte s.pc) = none) : fetchBytes s = [s.readByte s.pc] := by
  have hlen : opcodeLength (s.readByte s.pc) = none := by
    rw [opcodeLength, Option.map_eq_none_iff.1 h, Option.map_none]
  simp only [fetchBytes, hlen]

/-- Settles O14: the opcode selects no row, so the step faults; the views are those of any faulted run. -/
theorem unknownOpcodeFaultsTheRun : Obligations.UnknownOpcodeFaultsTheRun := by
  unfold Obligations.UnknownOpcodeFaultsTheRun
  rintro s op hrun hn rfl hop
  exact ⟨fetchBytes_unknown hop, _, step_eq_faulted hrun hn (fetched_eq_none hop), rfl,
    State.errorReport_faulted rfl, State.snapshot_faulted rfl⟩

theorem step_halted (h : s.rs = .halted) : step s = .fault .halted := by
  simp only [step, cycle, h]

theorem step_faulted (h : s.rs = .faulted op) : step s = .fault (.unknownInstruction op) := by
  simp only [step, cycle, h]

/-- Settles O15: the two terminal states answer their faults, and fetch and execute answers a next state. -/
theorem terminalStatesHaveNoStep : Obligations.TerminalStatesHaveNoStep := by
  unfold Obligations.TerminalStatesHaveNoStep
  refine fun s => ⟨step_halted, fun op => step_faulted, fun hrun => ?_⟩
  obtain ⟨t, ht, -⟩ := runFetched_answers_next (begun s)
  exact ⟨t, (step_eq_runFetched_begun hrun).trans ht⟩

/-- Settles O58: every view of a faulted run is fixed by its run state alone. -/
theorem faultedRunReportsNothingElse : Obligations.FaultedRunReportsNothingElse := by
  unfold Obligations.FaultedRunReportsNothingElse
  intro s t op hs ht
  refine ⟨?_, State.stopped_faulted hs, State.snapshot_faulted hs, State.dumpByte_faulted hs,
    State.framebufferByte_faulted hs, State.framebuffer_faulted hs, ?_, ?_, ?_⟩
  · rw [State.errorReport_faulted hs, Option.map_some]
  · rw [step_faulted hs]; exact fun _ => nofun
  · rw [step_faulted hs, step_faulted ht]
  · rw [State.errorReport_faulted hs, State.errorReport_faulted ht]

/-- What the RTI form answers (R268): three pulls, the flags from the first, PC from the other two, low byte first. -/
theorem execRti_eq (s : State) : execRti s = .next { s with
    flags := Flags.unpack (s.readByte (stackAddr (s.sp + 1)))
    pc := s.readByte (stackAddr (s.sp + 3)) ++ s.readByte (stackAddr (s.sp + 2))
    sp := s.sp + 3 } := by
  have h2 : s.sp + 1#8 + 1#8 = s.sp + 2 := BitVec.add_assoc _ _ _
  have h3 : s.sp + 2 + 1#8 = s.sp + 3 := BitVec.add_assoc _ _ _
  simp only [execRti, State.pullByte, State.pulled_eq, State.setSP_sp, State.setFlags_sp, h2, h3]
  rfl

/-- Settles O23: the step runs the RTI form from the begun state. -/
theorem rtiSwitchRunsTheStatedForm : Obligations.RtiSwitchRunsTheStatedForm := by
  unfold Obligations.RtiSwitchRunsTheStatedForm
  exact fun s hrun hsw hop => (step_eq_execRti hrun hsw hop).trans (execRti_eq _)

/-! ### Self-modifying code -/

/-- What STA abs leaves: A at its address, every other byte as before, PC advanced by 3, the run state and the
parameters (R143). -/
theorem exec_staAbs_frame (s : State) (w : Addr) : ∃ t, exec (.staAbs w) s = .next t ∧ t.readByte w = s.a ∧
    (∀ b, b ≠ w → t.readByte b = s.readByte b) ∧ t.pc = s.pc + 3 ∧ t.rs = s.rs ∧ t.cfg = s.cfg :=
  ⟨_, rfl, s.readByte_writeByte_same w s.a, fun _ hb => s.readByte_writeByte_other hb s.a, rfl, rfl, rfl⟩

/-- Opcode 0x40 has no row (R96). -/
theorem decodeInstr_0x40 (b1 b2 : Byte) : decodeInstr 0x40 b1 b2 = none := rfl

/-- Settles O22: the begun state reads A at the stored address, which is PC; it is not 0x40, which selects no row. -/
theorem storeIsSeenByTheNextFetch : Obligations.StoreIsSeenByTheNextFetch := by
  unfold Obligations.StoreIsSeenByTheNextFetch
  intro s t w i hrun hw hrand hkey ht hrow
  obtain ⟨t', ht', hstored, -, hpc, hrs, hcfg⟩ := exec_staAbs_frame s w
  obtain rfl : t' = t := Host.Outcome.next.inj (ht'.symm.trans ht)
  rw [← hw] at hpc
  rw [← hcfg] at hrand hkey
  have hread : (begun t').readByte w = s.a := (readByte_beginCycle_other t' _ _ hrand hkey).trans hstored
  have hpc' : (begun t').pc = w := hpc
  have hfetch : fetched (begun t') = some i := by rw [fetched, hpc', hread, hrow]
  have hn : NoRti t' := by
    refine .inr fun h40 => ?_
    rw [← hread, ← hpc, h40, decodeInstr_0x40] at hrow
    cases hrow
  exact step_eq_exec (hrs.trans hrun) hn hfetch

end Sys2Proof.Machine
end

section
/-! The start of a run and memory (spec 10_state.md R42; 20_memory.md R55, R60 to R70; 70_reset_and_hazards.md R280). An
image is copied byte by byte, so loading writes memory and the cells alone, and each copied byte is left by the copying
of those after it. -/

namespace Sys2Proof.Machine

open Sys2Proof.Spec

variable {s t : State} {a b : Addr} {image : List Byte} {j k : Nat}

/-- Before a program is loaded every address reads 0, the two cells included (R42). -/
theorem readByte_resetWith (c : Config) (a : Addr) : (State.resetWith c).readByte a = 0x00 := by
  simp only [State.readByte, State.resetWith, Memory.read, Memory.unlisted, ite_self]
  rfl

/-- Settles O1: the fields are those `State.resetWith` writes out. -/
theorem resetGivesStartValues : Obligations.ResetGivesStartValues := by
  unfold Obligations.ResetGivesStartValues
  refine ⟨rfl, ?_⟩
  rintro c _ rfl
  exact ⟨rfl, rfl, rfl, rfl, rfl, rfl, rfl, rfl, readByte_resetWith c⟩

/-- Settles O3: no address is listed, and the default parameters meet R9. -/
theorem resetStateIsWellFormed : Obligations.ResetStateIsWellFormed := by
  unfold Obligations.ResetStateIsWellFormed
  exact ⟨Memory.wf_nil, nofun, by decide⟩

/-! ### Loading an image -/

/-- Copying writes memory and the cells alone. -/
theorem State.copyImage_frame (image : List Byte) (s : State) (a : Addr) :
    ∃ m r k, s.copyImage a image = { s with mem := m, randCell := r, keyCell := k } := by
  induction image generalizing s a with
  | nil => exact ⟨s.mem, s.randCell, s.keyCell, rfl⟩
  | cons v rest ih =>
    obtain ⟨m, r, k, h⟩ := ih (s.writeByte a v) (a + 1#16)
    exact ⟨m, r, k, h⟩

theorem ofNat_succ_offset (a : Addr) (k : Nat) : a + BitVec.ofNat 16 (k + 1) = a + 1#16 + BitVec.ofNat 16 k := by
  rw [BitVec.add_assoc, ← BitVec.ofNat_add, Nat.add_comm 1 k]

/-- Copying leaves every byte outside the image's place. -/
theorem State.readByte_copyImage_outside (h : ∀ k, k < image.length → b ≠ a + BitVec.ofNat 16 k) :
    (s.copyImage a image).readByte b = s.readByte b := by
  induction image generalizing s a with
  | nil => rfl
  | cons v rest ih =>
    have hb : b ≠ a := by simpa using h 0 (Nat.zero_lt_succ _)
    have hrest : ∀ k, k < rest.length → b ≠ a + 1#16 + BitVec.ofNat 16 k := fun k hk =>
      ofNat_succ_offset a k ▸ h (k + 1) (Nat.succ_lt_succ hk)
    exact (ih hrest).trans (s.readByte_writeByte_other hb v)

/-- Addresses less than the whole space apart are distinct. -/
theorem add_ofNat_ne (hj : j < 0x10000) (hk : k < 0x10000) (hjk : j ≠ k) :
    a + BitVec.ofNat 16 j ≠ a + BitVec.ofNat 16 k := by
  intro h
  have h := congrArg BitVec.toNat ((BitVec.add_right_inj a).1 h)
  simp only [BitVec.toNat_ofNat] at h
  omega

/-- An image no longer than the whole space stands at its place, byte by byte (R70). -/
theorem State.readByte_copyImage_inside (hlen : image.length ≤ 0x10000) (hk : k < image.length) :
    (s.copyImage a image).readByte (a + BitVec.ofNat 16 k) = image.getD k 0 := by
  induction image generalizing s a k with
  | nil => exact absurd hk (Nat.not_lt_zero k)
  | cons v rest ih =>
    rw [List.length_cons] at hlen hk
    cases k with
    | zero =>
      rw [State.copyImage, State.readByte_copyImage_outside, BitVec.add_zero, State.readByte_writeByte_same,
        List.getD_cons_zero]
      intro j hj
      rw [← ofNat_succ_offset]
      exact add_ofNat_ne (by omega) (by omega) (by omega)
    | succ k =>
      rw [State.copyImage, ofNat_succ_offset a k, ih (by omega) (by omega), List.getD_cons_succ]

/-- An offset that stays in the address space does not wrap. -/
theorem toNat_add_ofNat (h : a.toNat + k < 0x10000) : (a + BitVec.ofNat 16 k).toNat = a.toNat + k := by
  simp only [BitVec.toNat_add, BitVec.toNat_ofNat]
  omega

/-- Settles O2: an image that fits is copied over the memory before a program, which reads 0 everywhere. -/
theorem bootCopiesImageOverZeroedMemory : Obligations.BootCopiesImageOverZeroedMemory := by
  unfold Obligations.BootCopiesImageOverZeroedMemory
  refine fun c image => ⟨fun hfits => ?_, fun hlong => if_neg ?_⟩
  · refine ⟨(State.resetWith c).copyImage c.loadAddr image, if_pos (decide_eq_true hfits), ?_⟩
    have hinside : ∀ k, k < image.length →
        ((State.resetWith c).copyImage c.loadAddr image).readByte (c.loadAddr + BitVec.ofNat 16 k) =
          image.getD k 0 := fun k => State.readByte_copyImage_inside (by omega)
    have houtside : ∀ b : Addr, (b.toNat < c.loadAddr.toNat ∨ c.loadAddr.toNat + image.length ≤ b.toNat) →
        ((State.resetWith c).copyImage c.loadAddr image).readByte b = 0 := by
      intro b hb
      rw [State.readByte_copyImage_outside, readByte_resetWith]
      rintro k hk rfl
      rw [toNat_add_ofNat (by omega)] at hb
      omega
    obtain ⟨m, r, key, hframe⟩ := State.copyImage_frame image (State.resetWith c) c.loadAddr
    rw [hframe] at hinside houtside ⊢
    exact ⟨rfl, rfl, rfl, rfl, rfl, rfl, rfl, rfl, hinside, houtside⟩
  · exact fun h => absurd (of_decide_eq_true h) (Nat.not_le.2 hlong)

/-! ### The port, the keypress cell and the framebuffer -/

/-- Settles O24: the two laws of the byte-wide port. -/
theorem readReturnsTheLastWrite : Obligations.ReadReturnsTheLastWrite := by
  unfold Obligations.ReadReturnsTheLastWrite
  exact fun s a v => ⟨s.readByte_writeByte_same a v, fun a' h => s.readByte_writeByte_other h v⟩

/-- Settles O25: an instruction leaves every byte it does not store to. -/
theorem memoryChangesOnlyWhereStored : Obligations.MemoryChangesOnlyWhereStored := by
  unfold Obligations.MemoryChangesOnlyWhereStored
  exact fun i s t h a => exec_readByte_of_not_stored h

/-- At the start of a step the keypress cell reads the collaborator's write, if there is one (R63). -/
theorem readByte_beginCycle_key (s : State) (r : Byte) (k : Option Byte) (h : s.cfg.keyAddr ≠ s.cfg.randAddr) :
    (beginCycle r k s).readByte s.cfg.keyAddr = k.getD (s.readByte s.cfg.keyAddr) := by
  simp [State.readByte, h]

/-- Settles O21: what the start of a step leaves in the cell is what was stored there, by STA too. -/
theorem keypressCellHoldsTheLastWrite : Obligations.KeypressCellHoldsTheLastWrite := by
  unfold Obligations.KeypressCellHoldsTheLastWrite
  intro r k s h
  obtain ⟨t, ht, hread, -, -, -, hcfg⟩ := exec_staAbs_frame s s.cfg.keyAddr
  refine ⟨readByte_beginCycle_key s r k h, t, ht, ?_⟩
  rw [← hcfg] at h hread ⊢
  rw [readByte_beginCycle_key t r k h, hread]

/-- What R9 says of a setting of the parameters. -/
theorem Config.wf_iff (c : Config) : c.wf = true ↔
    c.fbBase.toNat + 0x3FF ≤ 0xFFFF ∧ c.randAddr ≠ c.keyAddr ∧
    (c.randAddr.toNat < c.fbBase.toNat ∨ c.fbBase.toNat + 0x3FF < c.randAddr.toNat) ∧
    (c.keyAddr.toNat < c.fbBase.toNat ∨ c.fbBase.toNat + 0x3FF < c.keyAddr.toNat) := by
  simp only [Config.wf, Bool.and_eq_true, decide_eq_true_eq, and_assoc]

section Framebuffer

variable (hwf : s.cfg.wf = true) (hk : k < 1024)
include hwf hk

/-- The framebuffer does not wrap (R9, R64). -/
theorem toNat_framebufferAddr : (s.framebufferAddr k).toNat = s.cfg.fbBase.toNat + k := by
  obtain ⟨hfb, -⟩ := (Config.wf_iff s.cfg).1 hwf
  exact toNat_add_ofNat (by omega)

/-- No framebuffer cell is a device cell (R9). -/
theorem framebufferAddr_ne_cells : s.framebufferAddr k ≠ s.cfg.randAddr ∧ s.framebufferAddr k ≠ s.cfg.keyAddr := by
  have haddr := toNat_framebufferAddr hwf hk
  obtain ⟨-, -, hrand, hkey⟩ := (Config.wf_iff s.cfg).1 hwf
  constructor <;> intro h <;> rw [h] at haddr <;> omega

theorem readByte_beginCycle_framebuffer (r : Byte) (key : Option Byte) :
    (beginCycle r key s).readByte (s.framebufferAddr k) = s.readByte (s.framebufferAddr k) := by
  obtain ⟨hrand, hkey⟩ := framebufferAddr_ne_cells hwf hk
  exact readByte_beginCycle_other s r key hrand hkey

end Framebuffer

/-- Settles O26: the cells are distinct addresses and no device cells, and the view rests on their bytes alone. -/
theorem framebufferIsOrdinaryMemory : Obligations.FramebufferIsOrdinaryMemory := by
  unfold Obligations.FramebufferIsOrdinaryMemory
  intro s k hwf hk
  obtain ⟨t, ht, hsame, hother, -, hrs, hcfg⟩ := exec_staAbs_frame s (s.framebufferAddr k)
  refine ⟨⟨t, ht, hsame, fun j hj hjk => ?_, fun hrun => ?_⟩, fun r key => ?_,
    fun hrun => State.framebufferByte_eq hrun hk⟩
  · have hread := hother (s.framebufferAddr j) (add_ofNat_ne (by omega) (by omega) hjk)
    exact ⟨hread, State.framebufferByte_congr hrs hcfg hread⟩
  · have haddr : t.framebufferAddr k = s.framebufferAddr k := by simp only [State.framebufferAddr, hcfg]
    rw [State.framebufferByte_eq (hrs ▸ hrun) hk, haddr, hsame]
  · have hread := readByte_beginCycle_framebuffer hwf hk r key
    exact ⟨hread, State.framebufferByte_congr rfl rfl hread⟩

end Sys2Proof.Machine
end

section
/-! Which flags and registers an instruction writes (spec 10_state.md R21 to R29). Each shared operation has its kind of
flag write, and each kind is allowed to the mnemonics of the rows of R29 it touches; a register kept by the record the
operation answers is kept by every instruction that runs it. -/

namespace Sys2Proof.Machine

open Sys2Proof.Spec

/-- From the flags `f` to `g`, only flags that `m` is a writer of have changed (R29). -/
def FlagsKept (m : Mnemonic) (f g : Flags) : Prop :=
  (m ∉ nzWriters → g.n = f.n ∧ g.z = f.z) ∧ (m ∉ vWriters → g.v = f.v) ∧ (m ∉ bWriters → g.b = f.b) ∧
  (m ∉ dWriters → g.d = f.d) ∧ (m ∉ iWriters → g.i = f.i) ∧ (m ∉ cWriters → g.c = f.c)

section Kinds

variable {m : Mnemonic} {f g : Flags} (r : Byte) {c v : Bool}

theorem FlagsKept.of_eq (h : g = f) : FlagsKept m f g := by
  subst h; exact ⟨fun _ => ⟨rfl, rfl⟩, fun _ => rfl, fun _ => rfl, fun _ => rfl, fun _ => rfl, fun _ => rfl⟩

theorem FlagsKept.of_nz (hm : m ∈ nzWriters) (h : g = f.setNZ r) : FlagsKept m f g := by
  subst h; exact ⟨absurd hm, fun _ => rfl, fun _ => rfl, fun _ => rfl, fun _ => rfl, fun _ => rfl⟩

theorem FlagsKept.of_nzc (hm : m ∈ nzWriters) (hc : m ∈ cWriters) (h : g = Flags.setNZ { f with c := c } r) :
    FlagsKept m f g := by
  subst h; exact ⟨absurd hm, fun _ => rfl, fun _ => rfl, fun _ => rfl, fun _ => rfl, absurd hc⟩

theorem FlagsKept.of_nzcv (hm : m ∈ nzWriters) (hc : m ∈ cWriters) (hv : m ∈ vWriters)
    (h : g = Flags.setNZ { f with c := c, v := v } r) : FlagsKept m f g := by
  subst h; exact ⟨absurd hm, absurd hv, fun _ => rfl, fun _ => rfl, fun _ => rfl, absurd hc⟩

theorem FlagsKept.of_bit {n z : Bool} (hm : m ∈ nzWriters) (hv : m ∈ vWriters)
    (h : g = { f with z := z, n := n, v := v }) : FlagsKept m f g := by
  subst h; exact ⟨absurd hm, absurd hv, fun _ => rfl, fun _ => rfl, fun _ => rfl, fun _ => rfl⟩

theorem FlagsKept.plp : FlagsKept .plp f g :=
  ⟨absurd (by decide), absurd (by decide), absurd (by decide), absurd (by decide), absurd (by decide),
    absurd (by decide)⟩

end Kinds

section SharedOperations

variable {m : Mnemonic} {s t : State} {o : DataOperand} {mo : MemOperand} {r : Byte} {c : Bool}
  {f : Byte → Bool → ShiftResult}

theorem lda_flags (hm : m ∈ nzWriters) (h : lda o s = .next t) : FlagsKept m s.flags t.flags :=
  .of_nz _ hm (congrArg (·.flags) (lda_next h))

theorem ldx_flags (hm : m ∈ nzWriters) (h : ldx o s = .next t) : FlagsKept m s.flags t.flags :=
  .of_nz _ hm (congrArg (·.flags) (ldx_next h))

theorem ldy_flags (hm : m ∈ nzWriters) (h : ldy o s = .next t) : FlagsKept m s.flags t.flags :=
  .of_nz _ hm (congrArg (·.flags) (ldy_next h))

theorem store_flags (h : store mo r s = .next t) : FlagsKept m s.flags t.flags :=
  .of_eq (congrArg (·.flags) (store_next h))

theorem adc_flags (hm : m ∈ nzWriters) (hc : m ∈ cWriters) (hv : m ∈ vWriters) (h : adc o s = .next t) :
    FlagsKept m s.flags t.flags :=
  .of_nzcv _ hm hc hv (congrArg (·.flags) (adc_next h).choose_spec.2)

theorem sbc_flags (hm : m ∈ nzWriters) (hc : m ∈ cWriters) (hv : m ∈ vWriters) (h : sbc o s = .next t) :
    FlagsKept m s.flags t.flags :=
  .of_nzcv _ hm hc hv (congrArg (·.flags) (sbc_next h).choose_spec.2)

theorem compareReg_flags (hm : m ∈ nzWriters) (hc : m ∈ cWriters) (h : compareReg r o s = .next t) :
    FlagsKept m s.flags t.flags :=
  .of_nzc _ hm hc (congrArg (·.flags) (compareReg_next h))

theorem logicResult_flags (hm : m ∈ nzWriters) (h : logicResult r o s = .next t) : FlagsKept m s.flags t.flags :=
  .of_nz _ hm (congrArg (·.flags) (logicResult_next h))

theorem bitTest_flags (hm : m ∈ nzWriters) (hv : m ∈ vWriters) (h : bitTest mo s = .next t) :
    FlagsKept m s.flags t.flags :=
  .of_bit hm hv (congrArg (·.flags) (bitTest_next h).choose_spec.2)

theorem shiftAcc_flags (hm : m ∈ nzWriters) (hc : m ∈ cWriters) (h : shiftAcc f s = .next t) :
    FlagsKept m s.flags t.flags :=
  .of_nzc _ hm hc (congrArg (·.flags) (shiftAcc_next h).choose_spec.2)

theorem shiftMem_flags (hm : m ∈ nzWriters) (hc : m ∈ cWriters) (h : shiftMem f mo s = .next t) :
    FlagsKept m s.flags t.flags :=
  .of_nzc _ hm hc (congrArg (·.flags) (shiftMem_next h).choose_spec.2)

theorem stepMem_flags (hm : m ∈ nzWriters) (h : stepMem r mo s = .next t) : FlagsKept m s.flags t.flags :=
  .of_nz _ hm (congrArg (·.flags) (stepMem_next h).choose_spec.2)

theorem branch_flags (h : branch c r s = .next t) : FlagsKept m s.flags t.flags :=
  .of_eq (congrArg (·.flags) (branch_next h))

end SharedOperations

/-- Every instruction keeps the flags it is no writer of (R29). -/
theorem exec_flags {i : Instr} {s t : State} (h : exec i s = .next t) : FlagsKept i.mnemonic s.flags t.flags := by
  cases i
  case ldaImm | ldaZp | ldaZpx | ldaAbs | ldaAbsx | ldaAbsy | ldaIndx | ldaIndy =>
    exact lda_flags (m := .lda) (by decide) h
  case ldxImm | ldxZp | ldxZpy | ldxAbs | ldxAbsy => exact ldx_flags (m := .ldx) (by decide) h
  case ldyImm | ldyZp | ldyZpx | ldyAbs | ldyAbsx => exact ldy_flags (m := .ldy) (by decide) h
  case staZp | staZpx | staAbs | staAbsx | staAbsy | staIndx | staIndy | stxZp | stxZpy | stxAbs | styZp |
    styZpx | styAbs => exact store_flags h
  case adcImm | adcZp | adcZpx | adcAbs | adcAbsx | adcAbsy | adcIndx | adcIndy =>
    exact adc_flags (m := .adc) (by decide) (by decide) (by decide) h
  case sbcImm | sbcZp | sbcZpx | sbcAbs | sbcAbsx | sbcAbsy | sbcIndx | sbcIndy =>
    exact sbc_flags (m := .sbc) (by decide) (by decide) (by decide) h
  case cmpImm | cmpZp | cmpZpx | cmpAbs | cmpAbsx | cmpAbsy | cmpIndx | cmpIndy =>
    exact compareReg_flags (m := .cmp) (by decide) (by decide) h
  case cpxImm | cpxZp | cpxAbs => exact compareReg_flags (m := .cpx) (by decide) (by decide) h
  case cpyImm | cpyZp | cpyAbs => exact compareReg_flags (m := .cpy) (by decide) (by decide) h
  case andImm | andZp | andZpx | andAbs | andAbsx | andAbsy | andIndx | andIndy =>
    exact logicResult_flags (m := .and) (by decide) h
  case oraImm | oraZp | oraZpx | oraAbs | oraAbsx | oraAbsy | oraIndx | oraIndy =>
    exact logicResult_flags (m := .ora) (by decide) h
  case eorImm | eorZp | eorZpx | eorAbs | eorAbsx | eorAbsy | eorIndx | eorIndy =>
    exact logicResult_flags (m := .eor) (by decide) h
  case bitZp | bitAbs => exact bitTest_flags (m := .bit) (by decide) (by decide) h
  case aslAcc | lsrAcc | rolAcc | rorAcc => exact shiftAcc_flags (by decide) (by decide) h
  case aslZp | aslZpx | aslAbs | aslAbsx => exact shiftMem_flags (m := .asl) (by decide) (by decide) h
  case lsrZp | lsrZpx | lsrAbs | lsrAbsx => exact shiftMem_flags (m := .lsr) (by decide) (by decide) h
  case rolZp | rolZpx | rolAbs | rolAbsx => exact shiftMem_flags (m := .rol) (by decide) (by decide) h
  case rorZp | rorZpx | rorAbs | rorAbsx => exact shiftMem_flags (m := .ror) (by decide) (by decide) h
  case incZp | incZpx | incAbs | incAbsx => exact stepMem_flags (m := .inc) (by decide) h
  case decZp | decZpx | decAbs | decAbsx => exact stepMem_flags (m := .dec) (by decide) h
  case bpl | bmi | bvc | bvs | bcc | bcs | bne | beq => exact branch_flags h
  case inx | iny | dex | dey | tax | tay | txa | tya | tsx | pla =>
    cases h; exact .of_nz _ (by decide) rfl
  case plp => exact .plp
  case jmpAbs | jmpInd | txs | nop => cases h; exact .of_eq rfl
  case pha => exact .of_eq (congrArg (·.flags) (execPha_next h))
  case php => exact .of_eq (congrArg (·.flags) (execPhp_next h))
  case jsr => exact .of_eq (congrArg (·.flags) (execJsr_next h).choose_spec.2)
  case rts => exact .of_eq (congrArg (·.flags) (execRts_next h))
  -- What is left writes one flag: BRK and the flag instructions.
  case brk =>
    cases h
    exact ⟨fun _ => ⟨rfl, rfl⟩, fun _ => rfl, absurd (by decide), fun _ => rfl, fun _ => rfl, fun _ => rfl⟩
  case clc | sec =>
    cases h
    exact ⟨fun _ => ⟨rfl, rfl⟩, fun _ => rfl, fun _ => rfl, fun _ => rfl, fun _ => rfl, absurd (by decide)⟩
  case cli | sei =>
    cases h
    exact ⟨fun _ => ⟨rfl, rfl⟩, fun _ => rfl, fun _ => rfl, fun _ => rfl, absurd (by decide), fun _ => rfl⟩
  case cld | sed =>
    cases h
    exact ⟨fun _ => ⟨rfl, rfl⟩, fun _ => rfl, fun _ => rfl, absurd (by decide), fun _ => rfl, fun _ => rfl⟩
  case clv =>
    cases h
    exact ⟨fun _ => ⟨rfl, rfl⟩, absurd (by decide), fun _ => rfl, fun _ => rfl, fun _ => rfl, fun _ => rfl⟩

/-- Settles O27: each instruction's flag writes are of its mnemonic's rows. -/
theorem flagsChangeOnlyByTheirWriters : Obligations.FlagsChangeOnlyByTheirWriters := by
  unfold Obligations.FlagsChangeOnlyByTheirWriters
  exact fun i s t h => exec_flags h

/-! ### Registers -/

theorem stepX_eq (d : Byte) (s : State) :
    stepX d s = .next { s with x := s.x + d, flags := nzFlags s.flags (s.x + d), pc := s.pc + 1 } := rfl

theorem stepY_eq (d : Byte) (s : State) :
    stepY d s = .next { s with y := s.y + d, flags := nzFlags s.flags (s.y + d), pc := s.pc + 1 } := rfl

/-- From `s` to `t`, only registers that `i` is a writer of have changed, and PC has advanced by the length unless `i`
jumps or branches (R21 to R27). -/
def RegistersKept (i : Instr) (s t : State) : Prop :=
  (writesA i = false → t.a = s.a) ∧ (i.mnemonic ∉ xWriters → t.x = s.x) ∧ (i.mnemonic ∉ yWriters → t.y = s.y) ∧
  (i.mnemonic ∉ spWriters → t.sp = s.sp) ∧
  (i.mnemonic ∉ ([.jmp, .jsr, .rts] : List Mnemonic) → i.mode ≠ .rel → t.pc = s.pc + BitVec.ofNat 16 i.length)

section Kinds

variable {i : Instr} {s t : State}

/-- An instruction that writes no register but PC. -/
theorem RegistersKept.all (ha : t.a = s.a) (hx : t.x = s.x) (hy : t.y = s.y) (hsp : t.sp = s.sp)
    (hpc : t.pc = s.pc + BitVec.ofNat 16 i.length) : RegistersKept i s t :=
  ⟨fun _ => ha, fun _ => hx, fun _ => hy, fun _ => hsp, fun _ _ => hpc⟩

theorem RegistersKept.butA (hi : writesA i = true) (hx : t.x = s.x) (hy : t.y = s.y) (hsp : t.sp = s.sp)
    (hpc : t.pc = s.pc + BitVec.ofNat 16 i.length) : RegistersKept i s t :=
  ⟨fun hn => absurd (hi.symm.trans hn) nofun, fun _ => hx, fun _ => hy, fun _ => hsp, fun _ _ => hpc⟩

theorem RegistersKept.butX (hi : i.mnemonic ∈ xWriters) (ha : t.a = s.a) (hy : t.y = s.y) (hsp : t.sp = s.sp)
    (hpc : t.pc = s.pc + BitVec.ofNat 16 i.length) : RegistersKept i s t :=
  ⟨fun _ => ha, absurd hi, fun _ => hy, fun _ => hsp, fun _ _ => hpc⟩

theorem RegistersKept.butY (hi : i.mnemonic ∈ yWriters) (ha : t.a = s.a) (hx : t.x = s.x) (hsp : t.sp = s.sp)
    (hpc : t.pc = s.pc + BitVec.ofNat 16 i.length) : RegistersKept i s t :=
  ⟨fun _ => ha, fun _ => hx, absurd hi, fun _ => hsp, fun _ _ => hpc⟩

theorem RegistersKept.butSP (hi : i.mnemonic ∈ spWriters) (ha : t.a = s.a) (hx : t.x = s.x) (hy : t.y = s.y)
    (hpc : t.pc = s.pc + BitVec.ofNat 16 i.length) : RegistersKept i s t :=
  ⟨fun _ => ha, fun _ => hx, fun _ => hy, absurd hi, fun _ _ => hpc⟩

end Kinds

/-- Every instruction keeps the registers it is no writer of (R21 to R27). -/
theorem exec_registers {i : Instr} {s t : State} (h : exec i s = .next t) : RegistersKept i s t := by
  cases i
  case ldaImm | ldaZp | ldaZpx | ldaAbs | ldaAbsx | ldaAbsy | ldaIndx | ldaIndy =>
    rw [lda_next h]; exact .butA rfl rfl rfl rfl rfl
  case ldxImm | ldxZp | ldxZpy | ldxAbs | ldxAbsy =>
    rw [ldx_next h]; exact .butX (of_decide_eq_true rfl) rfl rfl rfl rfl
  case ldyImm | ldyZp | ldyZpx | ldyAbs | ldyAbsx =>
    rw [ldy_next h]; exact .butY (of_decide_eq_true rfl) rfl rfl rfl rfl
  case staZp | staZpx | staAbs | staAbsx | staAbsy | staIndx | staIndy | stxZp | stxZpy | stxAbs | styZp |
    styZpx | styAbs => rw [store_next h]; exact .all rfl rfl rfl rfl rfl
  case adcImm | adcZp | adcZpx | adcAbs | adcAbsx | adcAbsy | adcIndx | adcIndy =>
    obtain ⟨r, -, rfl⟩ := adc_next h; exact .butA rfl rfl rfl rfl rfl
  case sbcImm | sbcZp | sbcZpx | sbcAbs | sbcAbsx | sbcAbsy | sbcIndx | sbcIndy =>
    obtain ⟨r, -, rfl⟩ := sbc_next h; exact .butA rfl rfl rfl rfl rfl
  case cmpImm | cmpZp | cmpZpx | cmpAbs | cmpAbsx | cmpAbsy | cmpIndx | cmpIndy | cpxImm | cpxZp | cpxAbs |
    cpyImm | cpyZp | cpyAbs => rw [compareReg_next h]; exact .all rfl rfl rfl rfl rfl
  case andImm | andZp | andZpx | andAbs | andAbsx | andAbsy | andIndx | andIndy | oraImm | oraZp | oraZpx |
    oraAbs | oraAbsx | oraAbsy | oraIndx | oraIndy | eorImm | eorZp | eorZpx | eorAbs | eorAbsx | eorAbsy |
    eorIndx | eorIndy => rw [logicResult_next h]; exact .butA rfl rfl rfl rfl rfl
  case bitZp | bitAbs => obtain ⟨b, -, rfl⟩ := bitTest_next h; exact .all rfl rfl rfl rfl rfl
  case aslAcc | lsrAcc | rolAcc | rorAcc =>
    obtain ⟨r, -, rfl⟩ := shiftAcc_next h; exact .butA rfl rfl rfl rfl rfl
  case aslZp | aslZpx | aslAbs | aslAbsx | lsrZp | lsrZpx | lsrAbs | lsrAbsx | rolZp | rolZpx | rolAbs |
    rolAbsx | rorZp | rorZpx | rorAbs | rorAbsx =>
    obtain ⟨r, -, rfl⟩ := shiftMem_next h; exact .all rfl rfl rfl rfl rfl
  case incZp | incZpx | incAbs | incAbsx | decZp | decZpx | decAbs | decAbsx =>
    obtain ⟨r, -, rfl⟩ := stepMem_next h; exact .all rfl rfl rfl rfl rfl
  case bpl | bmi | bvc | bvs | bcc | bcs | bne | beq =>
    rw [branch_next h]
    exact ⟨fun _ => rfl, fun _ => rfl, fun _ => rfl, fun _ => rfl, fun _ hmode => absurd rfl hmode⟩
  case inx | dex => cases (stepX_eq _ s).symm.trans h; exact .butX (by decide) rfl rfl rfl rfl
  case iny | dey => cases (stepY_eq _ s).symm.trans h; exact .butY (by decide) rfl rfl rfl rfl
  case tax | tsx => cases h; exact .butX (by decide) rfl rfl rfl rfl
  case tay => cases h; exact .butY (by decide) rfl rfl rfl rfl
  case txa | tya => cases h; exact .butA rfl rfl rfl rfl rfl
  case txs => cases h; exact .butSP (by decide) rfl rfl rfl rfl
  case pha => rw [execPha_next h]; exact .butSP (by decide) rfl rfl rfl rfl
  case php => rw [execPhp_next h]; exact .butSP (by decide) rfl rfl rfl rfl
  case plp => rw [execPlp_next h]; exact .butSP (by decide) rfl rfl rfl rfl
  case pla =>
    rw [execPla_next h]
    exact ⟨nofun, fun _ => rfl, fun _ => rfl, absurd (by decide), fun _ _ => rfl⟩
  case jmpAbs | jmpInd =>
    cases h
    exact ⟨fun _ => rfl, fun _ => rfl, fun _ => rfl, fun _ => rfl, fun hn => absurd (of_decide_eq_true rfl) hn⟩
  case jsr =>
    obtain ⟨r, -, rfl⟩ := execJsr_next h
    exact ⟨fun _ => rfl, fun _ => rfl, fun _ => rfl, absurd (of_decide_eq_true rfl),
      fun hn => absurd (of_decide_eq_true rfl) hn⟩
  case rts =>
    rw [execRts_next h]
    exact ⟨fun _ => rfl, fun _ => rfl, fun _ => rfl, absurd (by decide), fun hn => absurd (by decide) hn⟩
  case brk | clc | sec | cli | sei | clv | cld | sed | nop => cases h; exact .all rfl rfl rfl rfl rfl

/-- Settles O28: the registers as `exec_registers` says, RS as `exec_rs`, and the model's own fields as
`exec_memory`. -/
theorem registersChangeOnlyByTheirWriters : Obligations.RegistersChangeOnlyByTheirWriters := by
  unfold Obligations.RegistersChangeOnlyByTheirWriters
  intro i s t h
  obtain ⟨ha, hx, hy, hsp, hpc⟩ := exec_registers h
  obtain ⟨-, -, hrs⟩ := exec_rs h
  exact ⟨ha, hx, hy, hsp, hpc, hrs, (exec_memory h).cfg, (exec_memory h).ticks⟩

end Sys2Proof.Machine
end

section
/-! Addresses and the adder as numbers (spec 30_encoding.md R86 to R94; 41_add_sub.md R160, R163; 47_branch.md R230). -/

namespace Sys2Proof.Machine

open Sys2Proof.Spec

/-! ### Effective addresses -/

/-- The sum of two zero-extended bytes does not wrap. -/
theorem toNat_zext16_add_zext16 (a b : Byte) : (zext16 a + zext16 b).toNat = a.toNat + b.toNat := by
  have := a.isLt
  have := b.isLt
  simp only [BitVec.toNat_add, toNat_zext16]
  omega

/-- A zero-page index, by the switch (R88, R89). -/
theorem toNat_zpIndexed (c : Config) (b1 idx : Byte) : (zpIndexed c b1 idx).toNat =
    if c.zpIndexWrap then (b1.toNat + idx.toNat) % 256 else b1.toNat + idx.toNat := by
  unfold zpIndexed
  split
  · rw [toNat_zext16, BitVec.toNat_add]
  · exact toNat_zext16_add_zext16 b1 idx

/-- A word plus an index wraps at 65 536 (R90, R91, R94). -/
theorem toNat_add_zext16 (w : Addr) (idx : Byte) : (w + zext16 idx).toNat = (w.toNat + idx.toNat) % 65536 := by
  rw [BitVec.toNat_add, toNat_zext16]

/-- Settles O30: each direct mode is a byte, a word, or one of the two kinds of index. -/
theorem effectiveAddressesOfDirectModes : Obligations.EffectiveAddressesOfDirectModes := by
  unfold Obligations.EffectiveAddressesOfDirectModes
  intro s b1 w
  refine ⟨toNat_zext16 b1, rfl, fun hw => ⟨?_, ?_⟩, fun hw => ⟨?_, ?_⟩, toNat_add_zext16 w s.x, toNat_add_zext16 w s.y⟩
  all_goals simp only [effAddr, toNat_zpIndexed, hw, if_true, if_false, Bool.false_eq_true]

/-- Where a zero-page pointer's high byte stands, by the switch (R57, R93, R94). -/
theorem zpNext_eq {c : Config} {p p' : Addr}
    (hwrap : c.zpIndexWrap = true → p'.toNat = (p.toNat + 1) % 256)
    (hflat : c.zpIndexWrap = false → p'.toNat = p.toNat + 1) : zpNext c p = p' := by
  apply BitVec.eq_of_toNat_eq
  unfold zpNext
  cases hw : c.zpIndexWrap with
  | true =>
    rw [if_pos rfl, toNat_zext16, BitVec.toNat_add, toNat_loByte, hwrap hw, Nat.mod_add_mod]
    rfl
  | false =>
    rw [if_neg Bool.false_ne_true, BitVec.toNat_add, hflat hw]
    exact Nat.mod_eq_of_lt (hflat hw ▸ p'.isLt)

/-- A zero-page pointer is read low byte first (R93, R94). -/
theorem State.zpPointer_eq {s : State} {q p p' : Addr} (hq : q.toNat = p.toNat)
    (hwrap : s.cfg.zpIndexWrap = true → p'.toNat = (p.toNat + 1) % 256)
    (hflat : s.cfg.zpIndexWrap = false → p'.toNat = p.toNat + 1) :
    s.zpPointer q = s.readByte p' ++ s.readByte p := by
  obtain rfl : q = p := BitVec.eq_of_toNat_eq hq
  rw [State.zpPointer, zpNext_eq hwrap hflat]
  rfl

/-- Settles O31: the given addresses are those of the pointer's two bytes. -/
theorem effectiveAddressesOfIndirectModes : Obligations.EffectiveAddressesOfIndirectModes := by
  unfold Obligations.EffectiveAddressesOfIndirectModes
  intro s b1 p p'
  have hindy : s.zpPointer (zext16 b1) = s.readByte p' ++ s.readByte p →
      (effAddr (.indy b1) s).toNat = ((s.readByte p' ++ s.readByte p).toNat + s.y.toNat) % 65536 := fun h => by
    rw [effAddr, toNat_add_zext16, h]
  refine ⟨fun hw hp hp' => ?_, fun hw hp hp' => ?_, fun hw hp hp' => hindy ?_, fun hw hp hp' => hindy ?_⟩
  case refine_1 =>
    exact State.zpPointer_eq ((toNat_zpIndexed ..).trans (by rw [hw, if_pos rfl, hp])) (fun _ => hp')
      fun h => absurd (hw.symm.trans h) nofun
  case refine_2 =>
    exact State.zpPointer_eq ((toNat_zpIndexed ..).trans (by rw [hw, if_neg Bool.false_ne_true, hp]))
      (fun h => absurd (hw.symm.trans h) nofun) fun _ => hp'
  case refine_3 =>
    exact State.zpPointer_eq ((toNat_zext16 b1).trans hp.symm) (fun _ => hp ▸ hp')
      fun h => absurd (hw.symm.trans h) nofun
  case refine_4 =>
    exact State.zpPointer_eq ((toNat_zext16 b1).trans hp.symm) (fun h => absurd (hw.symm.trans h) nofun)
      fun _ => hp ▸ hp'

/-! ### The adder -/

theorem toNat_bit16 (b : Bool) : (bit16 b).toNat = flagNat b := by
  cases b <;> rfl

theorem flagNat_le_one (b : Bool) : flagNat b ≤ 1 := by
  cases b <;> decide

/-- The sign bit of a byte as a bound. -/
theorem getLsbD_seven (v : Byte) : v.getLsbD 7 = decide (128 ≤ v.toNat) := BitVec.msb_eq_decide v

section Adder

variable (a b : Byte) (cin : Bool)

/-- The adder's 16-bit sum does not wrap (R160). -/
theorem toNat_adderSum : (zext16 a + zext16 b + bit16 cin).toNat = a.toNat + b.toNat + flagNat cin := by
  have := a.isLt
  have := b.isLt
  have := flagNat_le_one cin
  rw [BitVec.toNat_add, toNat_zext16_add_zext16, toNat_bit16]
  omega

theorem toNat_addCore_r : (addCore a b cin).r.toNat = (a.toNat + b.toNat + flagNat cin) % 256 := by
  simp only [addCore, BitVec.extractLsb'_toNat, toNat_adderSum, Nat.shiftRight_zero]

theorem addCore_c_iff : (addCore a b cin).c = true ↔ 255 < a.toNat + b.toNat + flagNat cin := by
  have := a.isLt
  have := b.isLt
  have := flagNat_le_one cin
  simp only [addCore, BitVec.getLsbD, toNat_adderSum, Nat.testBit_eq_decide_div_mod_eq, decide_eq_true_eq]
  omega

/-- The overflow: the result's sign is neither operand's (R160). -/
theorem addCore_v_iff : (addCore a b cin).v = true ↔
    ¬(128 ≤ a.toNat ↔ 128 ≤ (addCore a b cin).r.toNat) ∧ ¬(128 ≤ b.toNat ↔ 128 ≤ (addCore a b cin).r.toNat) := by
  have hv : (addCore a b cin).v = ((a ^^^ (addCore a b cin).r) &&& (b ^^^ (addCore a b cin).r)).getLsbD 7 := rfl
  rw [hv, BitVec.getLsbD_and, BitVec.getLsbD_xor, BitVec.getLsbD_xor]
  simp only [getLsbD_seven, Bool.and_eq_true, bne_iff_ne, ne_eq, decide_eq_decide]

end Adder

/-- Settles O36: the sum fits in 16 bits, so the carry is its bit 8, and the signs of the operands and of the result
say in which of the three ranges the signed sum lies. -/
theorem adderMatchesIntegerSum : Obligations.AdderMatchesIntegerSum := by
  unfold Obligations.AdderMatchesIntegerSum
  refine fun a b cin => ⟨toNat_addCore_r a b cin, addCore_c_iff a b cin, ?_⟩
  have := a.isLt
  have := b.isLt
  have := flagNat_le_one cin
  rw [addCore_v_iff, toNat_addCore_r, signed, signed]
  split <;> split <;> omega

theorem toNat_complement (m : Byte) : (~~~m).toNat = 255 - m.toNat := by
  rw [BitVec.toNat_not]

/-- The complement negates the signed value, less one. -/
theorem signed_complement (m : Byte) : signed (~~~m) = -1 - signed m := by
  have := m.isLt
  rw [signed, signed, toNat_complement]
  split <;> split <;> omega

/-- Settles O37: the adder's integer sum, on the complement. -/
theorem adderOnComplementSubtracts : Obligations.AdderOnComplementSubtracts := by
  unfold Obligations.AdderOnComplementSubtracts
  intro a m c
  obtain ⟨hr, hc, hv⟩ := adderMatchesIntegerSum a (~~~m) c
  have := m.isLt
  rw [toNat_complement] at hr hc
  rw [signed_complement] at hv
  rw [xor_0xFF_eq_complement, hc, hv, hr]
  refine ⟨?_, ?_, ?_⟩ <;> omega

/-! ### Branches -/

/-- A branch writes PC alone, by its condition (R230). -/
theorem branch_eq (c : Bool) (off : Byte) (s : State) :
    branch c off s = .next { s with pc := if c then branchTarget s.pc off else s.pc + 2 } := by
  cases c <;> rfl

/-- Each of the eight branches tests the condition its rule names (R231 to R238). -/
theorem branchForms_run (s : State) (off : Byte) : ∀ f ∈ branchForms s off, exec f.1 s = branch f.2 off s := by
  unfold branchForms
  repeat refine List.forall_mem_cons.2 ⟨rfl, ?_⟩
  exact fun _ hf => absurd hf List.not_mem_nil

theorem toNat_add_two (pc : Addr) : (pc + 2#16).toNat = (pc.toNat + 2) % 65536 := BitVec.toNat_add pc 2#16

/-- A branch's target is the signed offset beyond the next instruction, modulo 65 536 (R230). -/
theorem toNat_branchTarget (pc : Addr) (off : Byte) :
    ((branchTarget pc off).toNat : Int) = ((pc.toNat : Int) + 2 + signed off) % 65536 := by
  have := off.isLt
  rw [branchTarget, BitVec.toNat_add, toNat_add_two, toNat_sext16, signed]
  split <;> omega

/-- Settles O51: each branch runs `branch` on its condition, whose two targets are those numbers. -/
theorem branchesTestTheirFlag : Obligations.BranchesTestTheirFlag := by
  unfold Obligations.BranchesTestTheirFlag
  refine fun s off f hf => ⟨_, ?_, (branchForms_run s off f hf).trans (branch_eq f.2 off s)⟩
  cases f.2 with
  | true => exact toNat_branchTarget s.pc off
  | false =>
    have htarget : ((s.pc + 2#16).toNat : Int) = ((s.pc.toNat : Int) + 2 + 0) % 65536 := by
      rw [toNat_add_two]
      omega
    exact htarget

/-- What the formula of R125 answers, in terms of the offset. -/
theorem resolveRelative_eq_some {t p : Nat} {off : Byte} (h : resolveRelative t p = some off) :
    (-128 ≤ (t : Int) - p - 1 ∧ (t : Int) - p - 1 ≤ 127) ∧ off = BitVec.ofInt 8 ((t : Int) - p - 1) := by
  simp only [resolveRelative] at h
  split at h
  · exact ⟨‹_›, (Option.some.inj h).symm⟩
  · cases h

/-- A signed byte read back is the integer it was made from. -/
theorem signed_ofInt {z : Int} (hlo : -128 ≤ z) (hhi : z ≤ 127) : signed (BitVec.ofInt 8 z) = z := by
  rw [signed, BitVec.toNat_ofInt]
  split <;> omega

/-- The offset byte takes a branch at `base + q` to `base + t` (R125, R230). -/
theorem branchTarget_resolved {q t : Nat} {off : Byte} (base : Addr) (h : resolveRelative t (q + 1) = some off) :
    branchTarget (base + BitVec.ofNat 16 q) off = base + BitVec.ofNat 16 t := by
  obtain ⟨⟨hlo, hhi⟩, rfl⟩ := resolveRelative_eq_some h
  apply BitVec.eq_of_toNat_eq
  have htarget := toNat_branchTarget (base + BitVec.ofNat 16 q) (BitVec.ofInt 8 ((t : Int) - (q + 1 : Nat) - 1))
  rw [signed_ofInt hlo hhi] at htarget
  simp only [BitVec.toNat_add, BitVec.toNat_ofNat] at htarget ⊢
  omega

/-- Settles O10: a taken branch goes to its target, which the offset makes the label; the formula's own range is the
range. -/
theorem resolvedBranchReachesItsLabel : Obligations.ResolvedBranchReachesItsLabel := by
  unfold Obligations.ResolvedBranchReachesItsLabel
  refine ⟨fun s q t off hoff hpc f hf htaken => ?_, fun q t => ?_⟩
  · rw [branchForms_run s off f hf, branch_eq, htaken, if_pos rfl, hpc, branchTarget_resolved _ hoff]
  · simp only [resolveRelative, ite_eq_right_iff, reduceCtorEq, imp_false]
    omega

end Sys2Proof.Machine
end

section
/-! Compares, logic and BIT (spec 41_add_sub.md R166 to R169; 42_logic.md R180 to R183). -/

namespace Sys2Proof.Machine

open Sys2Proof.Spec

section Forms

variable (b1 : Byte) (w : Addr)

theorem cmpForms_run : FormsRun DataOperand.mode (fun d s => compareReg s.a d s) (cmpForms b1 w) := by
  unfold cmpForms
  repeat refine .cons (fun _ => rfl) rfl ?_
  exact .nil

theorem cpxForms_run : FormsRun DataOperand.mode (fun d s => compareReg s.x d s) (cpxForms b1 w) := by
  unfold cpxForms
  repeat refine .cons (fun _ => rfl) rfl ?_
  exact .nil

theorem cpyForms_run : FormsRun DataOperand.mode (fun d s => compareReg s.y d s) (cpyForms b1 w) := by
  unfold cpyForms
  repeat refine .cons (fun _ => rfl) rfl ?_
  exact .nil

theorem andForms_run :
    FormsRun DataOperand.mode (fun d s => logicResult (s.a &&& operandValue d s) d s) (andForms b1 w) := by
  unfold andForms
  repeat refine .cons (fun _ => rfl) rfl ?_
  exact .nil

theorem oraForms_run :
    FormsRun DataOperand.mode (fun d s => logicResult (s.a ||| operandValue d s) d s) (oraForms b1 w) := by
  unfold oraForms
  repeat refine .cons (fun _ => rfl) rfl ?_
  exact .nil

theorem eorForms_run :
    FormsRun DataOperand.mode (fun d s => logicResult (s.a ^^^ operandValue d s) d s) (eorForms b1 w) := by
  unfold eorForms
  repeat refine .cons (fun _ => rfl) rfl ?_
  exact .nil

theorem bitForms_run : FormsRun MemOperand.mode bitTest (bitForms b1 w) := by
  unfold bitForms
  repeat refine .cons (fun _ => rfl) rfl ?_
  exact .nil

end Forms

/-- The comparison's flags as the rule states them: unsigned order, equality, and the difference's sign (R166). -/
theorem compareFlags_eq (f : Flags) (r m : Byte) : Flags.setNZ { f with c := decide (m ≤ r) } (r - m) =
    { f with c := decide (m.toNat ≤ r.toNat), z := decide (r = m), n := (r - m).getLsbD 7 } := by
  have hz : r - m = 0#8 ↔ r = m := ⟨fun h => by bv_omega, fun h => by bv_omega⟩
  simp only [Flags.setNZ, BitVec.le_def, hz]

/-- What a compare answers, in the spec's terms. -/
theorem compareReg_eq {r : Byte} {d : DataOperand} {s t : State} {len : Addr}
    (hlen : len = BitVec.ofNat 16 d.mode.length) (h : compareReg r d s = .next t) : t = { s with
      flags := { s.flags with
        c := decide ((operandByte d s).toNat ≤ r.toNat)
        z := decide (r = operandByte d s)
        n := (r - operandByte d s).getLsbD 7 }
      pc := s.pc + len } := by
  rw [compareReg_next h, compareFlags_eq, operandValue_eq_operandByte, hlen]

/-- Settles O38: the rows run `compareReg` of A, X or Y. -/
theorem comparesSetTheFlags : Obligations.ComparesSetTheFlags := by
  unfold Obligations.ComparesSetTheFlags
  exact fun s b1 w => ⟨fun f hf => (cmpForms_run b1 w).exec_eq hf fun t => compareReg_eq,
    fun f hf => (cpxForms_run b1 w).exec_eq hf fun t => compareReg_eq,
    fun f hf => (cpyForms_run b1 w).exec_eq hf fun t => compareReg_eq⟩

/-- Settles O39: the rows run `logicResult` of their operation on A and the spec's operand. -/
theorem logicWritesAAndSetsNZ : Obligations.LogicWritesAAndSetsNZ := by
  unfold Obligations.LogicWritesAAndSetsNZ
  refine fun s b1 w => ⟨fun f hf => (andForms_run b1 w).exec_eq hf fun t hlen ht => ?and,
    fun f hf => (oraForms_run b1 w).exec_eq hf fun t hlen ht => ?ora,
    fun f hf => (eorForms_run b1 w).exec_eq hf fun t hlen ht => ?eor⟩
  case and => rw [logicResult_next ht, hlen, operandValue_eq_operandByte, Flags.setNZ_eq_nzFlags]
  case ora => rw [logicResult_next ht, hlen, operandValue_eq_operandByte, Flags.setNZ_eq_nzFlags]
  case eor => rw [logicResult_next ht, hlen, operandValue_eq_operandByte, Flags.setNZ_eq_nzFlags]

/-- Settles O40: the rows run `bitTest`, which tests the byte at the effective address. -/
theorem bitCopiesOperandBits : Obligations.BitCopiesOperandBits := by
  unfold Obligations.BitCopiesOperandBits
  refine fun s b1 w f hf => (bitForms_run b1 w).exec_eq hf fun t hlen ht => ?_
  obtain ⟨b, rfl, rfl⟩ := bitTest_next ht
  rw [hlen]
  rfl

end Sys2Proof.Machine
end

section
/-! Shifts, increments and flag instructions (spec 43_shift.md R190 to R193; 44_incdec.md R200 to R205;
49_flags_nop.md R250 to R257). -/

namespace Sys2Proof.Machine

open Sys2Proof.Spec

/-! ### Shifts -/

/-- A flag as a byte has that one bit. -/
theorem getLsbD_bit8 (c : Bool) (k : Nat) : (bit8 c).getLsbD k = (decide (k = 0) && c) := by
  cases c <;> simp [bit8]

section Bits

variable (v : Byte) (c : Bool) (k : Nat)

theorem getLsbD_aslCore : (aslCore v c).r.getLsbD k = (decide (0 < k ∧ k < 8) && v.getLsbD (k - 1)) := by
  simp only [aslCore, BitVec.getLsbD_shiftLeft, Bool.decide_and]
  cases k <;> simp

theorem getLsbD_lsrCore : (lsrCore v c).r.getLsbD k = v.getLsbD (k + 1) := by
  rw [lsrCore, BitVec.getLsbD_ushiftRight, Nat.add_comm]

variable {k}

theorem getLsbD_rolCore (hk : k < 8) :
    (rolCore v c).r.getLsbD k = if k = 0 then c else v.getLsbD (k - 1) := by
  simp only [rolCore, BitVec.getLsbD_or, BitVec.getLsbD_shiftLeft, getLsbD_bit8]
  cases k <;> simp [hk]

theorem getLsbD_rorCore (hk : k < 8) :
    (rorCore v c).r.getLsbD k = if k = 7 then c else v.getLsbD (k + 1) := by
  simp only [rorCore, BitVec.getLsbD_or, BitVec.getLsbD_ushiftRight, BitVec.getLsbD_shiftLeft, getLsbD_bit8]
  by_cases h7 : k = 7
  · subst h7; simp
  · have hlt : k < 7 := by omega
    simp [h7, hlt, Nat.add_comm]

end Bits

/-- What an accumulator shift answers. -/
theorem shiftAcc_eq (f : Byte → Bool → ShiftResult) (s : State) : shiftAcc f s = .next { s with
    a := (f s.a s.flags.c).r
    flags := nzFlags { s.flags with c := (f s.a s.flags.c).c } (f s.a s.flags.c).r
    pc := s.pc + 1 } := rfl

/-- Settles O41: the four forms run `shiftAcc` of the shift whose bits those are. -/
theorem accumulatorShiftsMoveOneBit : Obligations.AccumulatorShiftsMoveOneBit := by
  unfold Obligations.AccumulatorShiftsMoveOneBit
  exact fun s => ⟨⟨_, getLsbD_aslCore s.a s.flags.c, shiftAcc_eq aslCore s⟩,
    ⟨_, getLsbD_lsrCore s.a s.flags.c, shiftAcc_eq lsrCore s⟩,
    ⟨_, fun _ => getLsbD_rolCore s.a s.flags.c, shiftAcc_eq rolCore s⟩,
    ⟨_, fun _ => getLsbD_rorCore s.a s.flags.c, shiftAcc_eq rorCore s⟩⟩

section Forms

variable (b1 : Byte) (w : Addr)

theorem aslForms_run : FormsRun MemOperand.mode (shiftMem aslCore) (aslForms b1 w) := by
  unfold aslForms
  repeat refine .cons (fun _ => rfl) rfl ?_
  exact .nil

theorem lsrForms_run : FormsRun MemOperand.mode (shiftMem lsrCore) (lsrForms b1 w) := by
  unfold lsrForms
  repeat refine .cons (fun _ => rfl) rfl ?_
  exact .nil

theorem rolForms_run : FormsRun MemOperand.mode (shiftMem rolCore) (rolForms b1 w) := by
  unfold rolForms
  repeat refine .cons (fun _ => rfl) rfl ?_
  exact .nil

theorem rorForms_run : FormsRun MemOperand.mode (shiftMem rorCore) (rorForms b1 w) := by
  unfold rorForms
  repeat refine .cons (fun _ => rfl) rfl ?_
  exact .nil

theorem incForms_run : FormsRun MemOperand.mode (stepMem 1#8) (incForms b1 w) := by
  unfold incForms
  repeat refine .cons (fun _ => rfl) rfl ?_
  exact .nil

theorem decForms_run : FormsRun MemOperand.mode (stepMem (-1#8)) (decForms b1 w) := by
  unfold decForms
  repeat refine .cons (fun _ => rfl) rfl ?_
  exact .nil

end Forms

theorem bit8_eq_ofNat (c : Bool) : bit8 c = BitVec.ofNat 8 (flagNat c) := by
  cases c <;> rfl

theorem bit8_shiftLeft_eq_ofNat (c : Bool) : bit8 c <<< 7 = BitVec.ofNat 8 (128 * flagNat c) := by
  cases c <;> rfl

/-- What a shift of memory answers: `v` is the byte read, `r` the byte written back, `c` the bit shifted out. -/
theorem shiftMem_eq {f : Byte → Bool → ShiftResult} {m : MemOperand} {s t : State} {len : Addr} {r : Byte} {c : Bool}
    (hf : f (s.readByte (effAddr m s)) s.flags.c = ⟨r, c⟩) (hlen : len = BitVec.ofNat 16 m.mode.length)
    (h : shiftMem f m s = .next t) : t = { s.writeByte (effAddr m s) r with
      flags := nzFlags { s.flags with c := c } r, pc := s.pc + len } := by
  obtain ⟨x, hx, rfl⟩ := shiftMem_next h
  rw [hx, hf, hlen, Flags.setNZ_eq_nzFlags]

/-- Settles O42: the rows run `shiftMem`, which writes the shifted byte back to the address it was read from. -/
theorem memoryShiftsWriteBack : Obligations.MemoryShiftsWriteBack := by
  unfold Obligations.MemoryShiftsWriteBack
  intro s b1 w
  refine ⟨?asl, ?lsr, ?rol, ?ror⟩ <;> rintro f hf v r rfl rfl
  case asl => exact (aslForms_run b1 w).exec_eq hf fun t => shiftMem_eq rfl
  case lsr => exact (lsrForms_run b1 w).exec_eq hf fun t => shiftMem_eq rfl
  case rol =>
    rw [← bit8_eq_ofNat]
    exact (rolForms_run b1 w).exec_eq hf fun t => shiftMem_eq rfl
  case ror =>
    rw [← bit8_shiftLeft_eq_ofNat]
    exact (rorForms_run b1 w).exec_eq hf fun t => shiftMem_eq rfl

/-! ### Nine rotations

C and the eight bits of A form a ring of nine: a rotate left moves every bit one place on. -/

/-- Place `k` of the ring: C at 0, bit `k - 1` of A above it. -/
def ringBit (s : State) (k : Nat) : Bool := if k = 0 then s.flags.c else s.a.getLsbD (k - 1)

theorem rolOnce_eq (s : State) : rolOnce s = { s with
    a := (rolCore s.a s.flags.c).r
    flags := nzFlags { s.flags with c := (rolCore s.a s.flags.c).c } (rolCore s.a s.flags.c).r
    pc := s.pc + 1 } := rfl

/-- A rotate moves the bit at place `k` to the next place (R192). -/
theorem ringBit_rolOnce (s : State) {k : Nat} (hk : k < 9) : ringBit (rolOnce s) ((k + 1) % 9) = ringBit s k := by
  rw [rolOnce_eq]
  rcases Nat.lt_or_ge k 8 with h8 | h8
  · rw [Nat.mod_eq_of_lt (by omega), ringBit, if_neg (Nat.succ_ne_zero k), Nat.add_sub_cancel]
    exact getLsbD_rolCore s.a s.flags.c h8
  · obtain rfl : k = 8 := by omega
    rfl

/-- `n` rotates move it `n` places. -/
theorem ringBit_repeat_rolOnce (s : State) {k : Nat} (hk : k < 9) (n : Nat) :
    ringBit (Nat.repeat rolOnce n s) ((k + n) % 9) = ringBit s k := by
  induction n with
  | zero => rw [Nat.add_zero, Nat.mod_eq_of_lt hk]; rfl
  | succ n ih =>
    have hplace : (k + (n + 1)) % 9 = ((k + n) % 9 + 1) % 9 := by omega
    rw [Nat.repeat, hplace, ringBit_rolOnce _ (Nat.mod_lt _ (by decide)), ih]

theorem pc_repeat_rolOnce (s : State) (n : Nat) : (Nat.repeat rolOnce n s).pc = s.pc + BitVec.ofNat 16 n := by
  induction n with
  | zero => exact (BitVec.add_zero s.pc).symm
  | succ n ih =>
    have hpc : (rolOnce (Nat.repeat rolOnce n s)).pc = (Nat.repeat rolOnce n s).pc + 1 := rfl
    rw [Nat.repeat, hpc, ih, BitVec.ofNat_add, ← BitVec.add_assoc]
    rfl

/-- Settles O43: nine places on is the place itself. -/
theorem nineRotationsRestoreAAndCarry : Obligations.NineRotationsRestoreAAndCarry := by
  unfold Obligations.NineRotationsRestoreAAndCarry
  intro s
  have hring : ∀ k, k < 9 → ringBit (Nat.repeat rolOnce 9 s) k = ringBit s k := fun k hk => by
    have h := ringBit_repeat_rolOnce s hk 9
    rwa [Nat.add_mod_right, Nat.mod_eq_of_lt hk] at h
  exact ⟨BitVec.eq_of_getLsbD_eq fun k hk => hring (k + 1) (Nat.succ_lt_succ hk), hring 0 (by decide),
    pc_repeat_rolOnce s 9⟩

/-! ### Increments -/

/-- What INC and DEC of memory answer: `r` is the byte written back. -/
theorem stepMem_eq {d : Byte} {m : MemOperand} {s t : State} {len : Addr} {r : Byte}
    (hr : r.toNat = ((s.readByte (effAddr m s)).toNat + d.toNat) % 256)
    (hlen : len = BitVec.ofNat 16 m.mode.length) (h : stepMem d m s = .next t) :
    t = { s.writeByte (effAddr m s) r with flags := nzFlags s.flags r, pc := s.pc + len } := by
  obtain ⟨x, hx, rfl⟩ := stepMem_next h
  obtain rfl : r = x := BitVec.eq_of_toNat_eq (by rw [hr, hx, BitVec.toNat_add])
  rw [hlen, Flags.setNZ_eq_nzFlags]

/-- Settles O44: the rows run `stepMem` with 1 or 255 added. -/
theorem memoryIncrementsWriteBack : Obligations.MemoryIncrementsWriteBack := by
  unfold Obligations.MemoryIncrementsWriteBack
  exact fun s b1 w => ⟨fun f hf r hr => (incForms_run b1 w).exec_eq hf fun t => stepMem_eq hr,
    fun f hf r hr => (decForms_run b1 w).exec_eq hf fun t => stepMem_eq hr⟩

/-- Settles O45: subtracting one is adding its negative. -/
theorem indexIncrementsSetNZ : Obligations.IndexIncrementsSetNZ := by
  unfold Obligations.IndexIncrementsSetNZ
  intro s
  rw [BitVec.sub_eq_add_neg, BitVec.sub_eq_add_neg]
  exact ⟨stepX_eq 1 s, stepY_eq 1 s, stepX_eq (-1) s, stepY_eq (-1) s⟩

/-! ### Flag instructions -/

/-- The end of a flag instruction writes PC alone. -/
theorem flagDone_eq (s : State) : flagDone s = .next { s with pc := s.pc + 1 } := rfl

/-- Settles O57: each ends in `flagDone` from the state with its flag written, NOP from the state itself. -/
theorem flagInstructionsWriteOneFlag : Obligations.FlagInstructionsWriteOneFlag := by
  unfold Obligations.FlagInstructionsWriteOneFlag
  exact fun s => ⟨flagDone_eq (s.setC false), flagDone_eq (s.setC true), flagDone_eq (s.setI false),
    flagDone_eq (s.setI true), flagDone_eq (s.setV false), flagDone_eq (s.setD false), flagDone_eq (s.setD true),
    flagDone_eq s⟩

end Sys2Proof.Machine
end

section
/-! The stack, jumps and subroutines (spec 46_stack.md R220 to R224; 48_jump_call_halt.md R241 to R245; 30_encoding.md
R92). What each instruction answers is said once; a push and the pull that undoes it are then two such answers with the
start of a step between them, which leaves the stack bytes that are no device cells. -/

namespace Sys2Proof.Machine

open Sys2Proof.Spec

variable {s t : State}

/-! ### Push and pull -/

/-- Settles O49: the stack byte's address is in the stack page, and SP is decremented, then incremented. -/
theorem stackStaysInItsPageAndInverts : Obligations.StackStaysInItsPageAndInverts := by
  unfold Obligations.StackStaysInItsPageAndInverts
  refine fun s v => ⟨toNat_stackAddr s.sp, State.pullByte_push s v, BitVec.sub_add_cancel s.sp 1#8, fun a ha => ?_⟩
  have hne : a ≠ stackAddr s.sp := by
    rintro rfl
    have := s.sp.isLt
    rw [toNat_stackAddr] at ha
    omega
  exact s.readByte_writeByte_other hne v

theorem execPha_eq (s : State) :
    execPha s = .next { s.writeByte (stackAddr s.sp) s.a with sp := s.sp - 1, pc := s.pc + 1 } := rfl

theorem execPhp_eq (s : State) :
    execPhp s = .next { s.writeByte (stackAddr s.sp) s.flags.pack with sp := s.sp - 1, pc := s.pc + 1 } := rfl

theorem execPla_eq (s : State) : execPla s = .next { s with
    a := s.readByte (stackAddr (s.sp + 1)), sp := s.sp + 1
    flags := nzFlags s.flags (s.readByte (stackAddr (s.sp + 1))), pc := s.pc + 1 } := rfl

theorem execPlp_eq (s : State) : execPlp s = .next { s with
    sp := s.sp + 1
    flags := Flags.unpack (s.readByte (stackAddr (s.sp + 1)))
    pc := s.pc + 1
    rs := if s.cfg.plpBHalts = true ∧ (s.readByte (stackAddr (s.sp + 1))).getLsbD 4 = true then .halted
      else s.rs } := by
  obtain ⟨t, ht⟩ := exec_answers_next .plp s
  rw [execPlp_next ht] at ht
  exact ht

/-- Settles O47: the byte PHP pushes is the packed status byte. -/
theorem pushesWriteTheStackByte : Obligations.PushesWriteTheStackByte := by
  unfold Obligations.PushesWriteTheStackByte
  exact fun s => ⟨execPha_eq s, s.flags.pack, execPhp_eq s, s.flags.pack_bits⟩

/-- Settles O48: the two answers, with the flags `Flags.unpack` reads. -/
theorem pullsReadTheStackByte : Obligations.PullsReadTheStackByte := by
  unfold Obligations.PullsReadTheStackByte
  rintro s _ rfl
  exact ⟨execPla_eq s, execPlp_eq s⟩

/-- What PHP leaves: the packed status at the stack byte, SP one less, PC advanced by 1, and the other registers and the
parameters (R222). -/
theorem exec_php_frame (s : State) : ∃ t, exec .php s = .next t ∧ t.readByte (stackAddr s.sp) = s.flags.pack ∧
    t.sp = s.sp - 1 ∧ t.pc = s.pc + 1 ∧ t.a = s.a ∧ t.x = s.x ∧ t.y = s.y ∧ t.cfg = s.cfg :=
  ⟨_, execPhp_eq s, s.readByte_writeByte_same (stackAddr s.sp) s.flags.pack, rfl, rfl, rfl, rfl, rfl, rfl⟩

/-- Settles O50: PLP reads the byte PHP wrote, which unpacks to the flags it was packed from. -/
theorem phpThenPlpRestoresTheFlags : Obligations.PhpThenPlpRestoresTheFlags := by
  unfold Obligations.PhpThenPlpRestoresTheFlags
  intro s t r k hrand hkey ht
  obtain ⟨t', ht', hpushed, hsp, hpc, ha, hx, hy, hcfg⟩ := exec_php_frame s
  obtain rfl : t' = t := Host.Outcome.next.inj (ht'.symm.trans ht)
  have hsp1 : t'.sp + 1 = s.sp := by rw [hsp, BitVec.sub_add_cancel]
  have hpc1 : t'.pc + 1 = s.pc + 2 := by rw [hpc]; exact BitVec.add_assoc s.pc 1 1
  rw [← hcfg] at hrand hkey
  have hread : (beginCycle r k t').readByte (stackAddr (t'.sp + 1)) = s.flags.pack := by
    rw [hsp1, readByte_beginCycle_other t' r k hrand hkey, hpushed]
  refine ⟨_, execPlp_eq (beginCycle r k t'), ?_, hsp1, hpc1, ha, hx, hy⟩
  exact (congrArg Flags.unpack hread).trans s.flags.unpack_pack

/-! ### Jumps, JSR and RTS -/

/-- Where the high byte of an indirect jump's target stands, by the switch (R92). -/
theorem jmpPointerHigh_eq {c : Config} {w h : Addr}
    (hflat : c.jmpIndPageWrap = false → h.toNat = (w.toNat + 1) % 65536)
    (hwrap : c.jmpIndPageWrap = true → h.toNat = w.toNat / 256 * 256 + (w.toNat + 1) % 256) :
    jmpPointerHigh c w = h := by
  apply BitVec.eq_of_toNat_eq
  unfold jmpPointerHigh
  cases hw : c.jmpIndPageWrap with
  | true =>
    rw [if_pos rfl, toNat_hiLo, toNat_hiByte, BitVec.toNat_add, toNat_loByte, Nat.mod_add_mod, hwrap hw]
    rfl
  | false =>
    rw [if_neg Bool.false_ne_true, BitVec.toNat_add, hflat hw]
    rfl

/-- An indirect jump writes PC alone. -/
theorem execJmpInd_eq (s : State) (w : Addr) : execJmpInd w s = .next { s with
    pc := s.readByte (jmpPointerHigh s.cfg w) ++ s.readByte w } := rfl

/-- Settles O52: the given address is that of the pointer's high byte. -/
theorem jmpSetsPC : Obligations.JmpSetsPC := by
  unfold Obligations.JmpSetsPC
  refine fun s w => ⟨rfl, fun h hflat hwrap => (execJmpInd_eq s w).trans ?_⟩
  rw [jmpPointerHigh_eq hflat hwrap]

/-- What JSR answers, the return address being given as its two bytes (R244). -/
theorem execJsr_eq {w : Addr} {hi lo : Byte} (h : hiLo hi lo = s.pc + s.cfg.jsrRetBias) :
    execJsr w s = .next { (s.writeByte (stackAddr s.sp) hi).writeByte (stackAddr (s.sp - 1)) lo with
      sp := s.sp - 2, pc := w } := by
  obtain ⟨t, ht⟩ := exec_answers_next (.jsr w) s
  obtain ⟨ret, hret, rfl⟩ := execJsr_next ht
  have hsp : s.sp - 1#8 - 1#8 = s.sp - 2 := BitVec.sub_sub s.sp 1#8 1#8
  rw [hret, ← h, hiByte_hiLo, loByte_hiLo, hsp] at ht
  exact ht

/-- Settles O53: the two bytes given are those of the address pushed. -/
theorem jsrPushesTheReturnAddress : Obligations.JsrPushesTheReturnAddress := by
  unfold Obligations.JsrPushesTheReturnAddress
  exact fun s w hi lo h => execJsr_eq h

/-- What RTS answers (R245). -/
theorem execRts_eq (s : State) : execRts s = .next { s with
    sp := s.sp + 2
    pc := hiLo (s.readByte (stackAddr (s.sp + 2))) (s.readByte (stackAddr (s.sp + 1))) + (3 - s.cfg.jsrRetBias) } := by
  obtain ⟨t, ht⟩ := exec_answers_next .rts s
  have hsp : s.sp + 1#8 + 1#8 = s.sp + 2 := BitVec.add_assoc s.sp 1#8 1#8
  rw [execRts_next ht, hsp] at ht
  exact ht

/-- Settles O54: SP is incremented twice, the low byte being pulled first. -/
theorem rtsPullsTheReturnAddress : Obligations.RtsPullsTheReturnAddress := by
  unfold Obligations.RtsPullsTheReturnAddress
  exact execRts_eq

/-- Two stack bytes in a row are two addresses, at the wrap of SP too. -/
theorem stackAddr_ne_stackAddr_pred (sp : Byte) : stackAddr sp ≠ stackAddr (sp - 1) := fun h => by
  have hsp := stackAddr_inj h
  bv_omega

/-- What JSR leaves: PC at the target, the two bytes of the return address on the stack, and the other registers, the
flags and the parameters (R244). -/
theorem exec_jsr_frame (s : State) (w : Addr) : ∃ t, exec (.jsr w) s = .next t ∧ t.pc = w ∧ t.sp = s.sp - 2 ∧
    t.readByte (stackAddr s.sp) = hiByte (s.pc + s.cfg.jsrRetBias) ∧
    t.readByte (stackAddr (s.sp - 1)) = loByte (s.pc + s.cfg.jsrRetBias) ∧
    t.a = s.a ∧ t.x = s.x ∧ t.y = s.y ∧ t.flags = s.flags ∧ t.cfg = s.cfg := by
  refine ⟨_, execJsr_eq (hiLo_hiByte_loByte _), rfl, rfl, ?_, ?_, rfl, rfl, rfl, rfl, rfl⟩
  · exact (State.readByte_writeByte_other _ (stackAddr_ne_stackAddr_pred s.sp) _).trans
      (s.readByte_writeByte_same _ _)
  · exact State.readByte_writeByte_same (s.writeByte (stackAddr s.sp) (hiByte (s.pc + s.cfg.jsrRetBias))) _ _

/-- Settles O55: RTS reads the two bytes JSR wrote, and the two biases add up to the length of JSR. -/
theorem jsrThenRtsReturnsAfterTheCall : Obligations.JsrThenRtsReturnsAfterTheCall := by
  unfold Obligations.JsrThenRtsReturnsAfterTheCall
  intro s t w r k hrand hkey hrand1 hkey1 ht
  obtain ⟨t', ht', hpc, hsp, hhi, hlo, ha, hx, hy, hflags, hcfg⟩ := exec_jsr_frame s w
  obtain rfl : t' = t := Host.Outcome.next.inj (ht'.symm.trans ht)
  have hsp2 : t'.sp + 2 = s.sp := by rw [hsp, BitVec.sub_add_cancel]
  have hsp1 : t'.sp + 1 = s.sp - 1 := by bv_omega
  rw [← hcfg] at hrand hkey hrand1 hkey1
  have hret : hiLo ((beginCycle r k t').readByte (stackAddr (t'.sp + 2)))
      ((beginCycle r k t').readByte (stackAddr (t'.sp + 1))) = s.pc + t'.cfg.jsrRetBias := by
    rw [hsp2, hsp1, readByte_beginCycle_other t' r k hrand hkey, readByte_beginCycle_other t' r k hrand1 hkey1,
      hhi, hlo, hiLo_hiByte_loByte, hcfg]
  refine ⟨hpc, _, execRts_eq (beginCycle r k t'), ?_, hsp2, ha, hx, hy, hflags⟩
  calc hiLo _ _ + (3 - t'.cfg.jsrRetBias)
    _ = s.pc + t'.cfg.jsrRetBias + (3 - t'.cfg.jsrRetBias) := congrArg (· + (3 - t'.cfg.jsrRetBias)) hret
    _ = s.pc + 3 := by bv_omega

end Sys2Proof.Machine
end
